-- ==== Sys2Proof/Word.lean ====
section
/-! DEFINITION. The bit-vector types of the block: bytes of the three byte streams, 16- and 32-bit host fields and
11-bit channel values (spec 00_scope.md R7 to R10, 30_encoding.md R82). -/

namespace Sys2Proof

/-- One byte of a wire frame, a command packet or a response packet. -/
abbrev Byte := BitVec 8

/-- A 16-bit host field: u16, or s16 read through `BitVec.toInt` (00 R10). -/
abbrev Half := BitVec 16

/-- A 32-bit host field or counter (00 R8). -/
abbrev Word := BitVec 32

/-- An 11-bit channel value, 0..2047 (00 R7 CH_BITS, 10 R22). -/
abbrev Chan := BitVec 11

end Sys2Proof
end

