-- ==== Sys2Proof/Syntax.lean ====
section
/-! DEFINITION. The 14 host commands, one constructor per row of spec/opcode_table.json (spec 30_encoding.md R83).
A count field (N or L) is the length of its list, so no constructor carries it. -/

namespace Sys2Proof

/-- A host command with its operands (30 R83). `s16` operands are kept as their 16-bit pattern (30 R82). -/
inductive Instr where
  /-- 0x01 GET_STATUS (44 R211). -/
  | getStatus
  /-- 0x02 GET_COUNTERS (44 R212). -/
  | getCounters
  /-- 0x10 SET_CHANNEL IDX, VAL (43 R173). -/
  | setChannel (idx : Byte) (val : Half)
  /-- 0x11 SET_CHANNELS [VAL_0 ..] (43 R174). -/
  | setChannels (vals : List Half)
  /-- 0x12 ARM (43 R175). -/
  | arm
  /-- 0x13 DISARM (43 R176). -/
  | disarm
  /-- 0x14 RESET_CONTROLS (43 R177). -/
  | resetControls
  /-- 0x20 START_LINK BAUD, RATE (44 R201). -/
  | startLink (baud : Word) (rate : Half)
  /-- 0x21 STOP_LINK (44 R208). -/
  | stopLink
  /-- 0x30 CRC8 [DATA] (40 R106). -/
  | crc8 (data : List Byte)
  /-- 0x31 PACK [VAL_0 ..] (41 R125). -/
  | pack (vals : List Half)
  /-- 0x32 UNPACK [p0 .. p21] (41 R126). -/
  | unpack (payload : Vector Byte 22)
  /-- 0x33 BUILD_FRAME ADDR, TYPE, [PAYLOAD] (42 R150). -/
  | buildFrame (addr frameType : Byte) (payload : List Byte)
  /-- 0x34 PARSE [BUF] (42 R151). -/
  | parse (buf : List Byte)
  deriving DecidableEq, Repr

end Sys2Proof
end

