-- ==== Sys2Proof/WellFormed.lean ====
section
/-! DEFINITION. Which command terms a command packet can carry: a list operand fits its count field
(spec 30_encoding.md R83: N and L are u8, PARSE's N is u16). Every value of every field is legal (30 R89). -/

namespace Sys2Proof

/-- The operand lists fit the count fields of 30 R83. -/
def Instr.wellFormed : Instr → Bool
  | .getStatus => true
  | .getCounters => true
  | .setChannel _ _ => true
  | .setChannels vals => vals.length ≤ 255
  | .arm => true
  | .disarm => true
  | .resetControls => true
  | .startLink _ _ => true
  | .stopLink => true
  | .crc8 data => data.length ≤ 255
  | .pack vals => vals.length ≤ 255
  | .unpack _ => true
  | .buildFrame _ _ payload => payload.length ≤ 255
  | .parse buf => buf.length ≤ 65535

/-- `i` is the content of some command packet. -/
abbrev Instr.WellFormed (i : Instr) : Prop := i.wellFormed = true

end Sys2Proof
end

