-- ==== Sys2Proof/Decode.lean ====
section
/-! DEFINITION. The host port's byte order, the decoder of a command packet and the encoder
(spec 20_memory.md R53, 30_encoding.md R81 to R84, R88). The decoder is total on byte strings and names what it
rejects. -/

namespace Sys2Proof

/-! ### Byte strings and byte order -/

/-- `p[k]` of a byte string (00 R9); 0 past its end, where no rule reads. -/
def byteAt (p : List Byte) (k : Nat) : Byte := p.getD k 0

/-- `p[i .. j]`, the half-open slice (00 R9). -/
def slice (p : List Byte) (i j : Nat) : List Byte := (p.drop i).take (j - i)

/-- `u16(b0, b1)`, and the pattern of `s16(b0, b1)`: low byte first (00 R10, 20 R53). -/
def u16 (b0 b1 : Byte) : Half := b1 ++ b0

/-- `u32(b0 .. b3)`, low byte first (00 R10, 20 R53). -/
def u32 (b0 b1 b2 b3 : Byte) : Word := b3 ++ b2 ++ b1 ++ b0

/-- `u16le`: the two bytes of a 16-bit field, low byte first (20 R53). -/
def u16le (h : Half) : List Byte := [h.extractLsb' 0 8, h.extractLsb' 8 8]

/-- `u32le`: the four bytes of a 32-bit field, low byte first (20 R53). -/
def u32le (w : Word) : List Byte :=
  [w.extractLsb' 0 8, w.extractLsb' 8 8, w.extractLsb' 16 8, w.extractLsb' 24 8]

/-- A list of 16-bit fields read from its bytes, pair by pair; a lone last byte is not read. -/
def halves : List Byte → List Half
  | b0 :: b1 :: rest => u16 b0 b1 :: halves rest
  | _ => []

/-- The `n` low bytes of a number, least significant first. -/
def bytesOfNat : Nat → Nat → List Byte
  | 0, _ => []
  | n + 1, w => BitVec.ofNat 8 w :: bytesOfNat n (w / 256)

/-! ### Opcodes -/

/-- The opcodes of the command table (30 R83). -/
inductive Opcode where
  | getStatus
  | getCounters
  | setChannel
  | setChannels
  | arm
  | disarm
  | resetControls
  | startLink
  | stopLink
  | crc8
  | pack
  | unpack
  | buildFrame
  | parse
  deriving DecidableEq, Repr

/-- The opcode byte (30 R83). -/
def Opcode.byte : Opcode → Byte
  | .getStatus => 0x01
  | .getCounters => 0x02
  | .setChannel => 0x10
  | .setChannels => 0x11
  | .arm => 0x12
  | .disarm => 0x13
  | .resetControls => 0x14
  | .startLink => 0x20
  | .stopLink => 0x21
  | .crc8 => 0x30
  | .pack => 0x31
  | .unpack => 0x32
  | .buildFrame => 0x33
  | .parse => 0x34

/-- The opcode of a byte; every byte outside 30 R83 is illegal (30 R88). -/
def Opcode.ofByte (b : Byte) : Option Opcode :=
  match b.toNat with
  | 0x01 => some .getStatus
  | 0x02 => some .getCounters
  | 0x10 => some .setChannel
  | 0x11 => some .setChannels
  | 0x12 => some .arm
  | 0x13 => some .disarm
  | 0x14 => some .resetControls
  | 0x20 => some .startLink
  | 0x21 => some .stopLink
  | 0x30 => some .crc8
  | 0x31 => some .pack
  | 0x32 => some .unpack
  | 0x33 => some .buildFrame
  | 0x34 => some .parse
  | _ => none

/-- The bytes up to and including the count field (30 R84); 1 where there is none. -/
def Opcode.headerLength : Opcode → Nat
  | .setChannels => 2
  | .crc8 => 2
  | .pack => 2
  | .buildFrame => 4
  | .parse => 3
  | _ => 1

/-- The only length the block accepts for a packet of this opcode, from the count field where there is one
(30 R83, R84). -/
def Opcode.packetLength (op : Opcode) (p : List Byte) : Nat :=
  match op with
  | .getStatus => 1
  | .getCounters => 1
  | .setChannel => 4
  | .setChannels => 2 + 2 * (byteAt p 1).toNat
  | .arm => 1
  | .disarm => 1
  | .resetControls => 1
  | .startLink => 7
  | .stopLink => 1
  | .crc8 => 2 + (byteAt p 1).toNat
  | .pack => 2 + 2 * (byteAt p 1).toNat
  | .unpack => 23
  | .buildFrame => 4 + (byteAt p 3).toNat
  | .parse => 3 + (u16 (byteAt p 1) (byteAt p 2)).toNat

/-- The operands of a packet of the right length, at the offsets of 30 R83. -/
def Opcode.operands (op : Opcode) (p : List Byte) : Instr :=
  match op with
  | .getStatus => .getStatus
  | .getCounters => .getCounters
  | .setChannel => .setChannel (byteAt p 1) (u16 (byteAt p 2) (byteAt p 3))
  | .setChannels => .setChannels (halves (p.drop 2))
  | .arm => .arm
  | .disarm => .disarm
  | .resetControls => .resetControls
  | .startLink =>
    .startLink (u32 (byteAt p 1) (byteAt p 2) (byteAt p 3) (byteAt p 4)) (u16 (byteAt p 5) (byteAt p 6))
  | .stopLink => .stopLink
  | .crc8 => .crc8 (p.drop 2)
  | .pack => .pack (halves (p.drop 2))
  | .unpack => .unpack (Vector.ofFn fun j : Fin 22 => byteAt p (j.val + 1))
  | .buildFrame => .buildFrame (byteAt p 1) (byteAt p 2) (p.drop 4)
  | .parse => .parse (p.drop 3)

/-! ### The decoder -/

/-- Why a packet is no command (30 R84). -/
inductive DecodeError where
  /-- An empty packet, or one whose length does not match its opcode (60 R248). -/
  | badLength
  /-- An opcode outside 30 R83 (60 R247). -/
  | illegalCommand
  deriving DecidableEq, Repr

/-- The checks of 30 R84 in their order, then the operands of 30 R83. -/
def decode (p : List Byte) : Except DecodeError Instr :=
  match p with
  | [] => .error .badLength
  | opc :: _ =>
    match Opcode.ofByte opc with
    | none => .error .illegalCommand
    | some op =>
      if p.length < op.headerLength then .error .badLength
      else if p.length ≠ op.packetLength p then .error .badLength
      else .ok (op.operands p)

/-- A packet given by its first bytes, every byte after them 0, at the length its opcode and count field ask for. -/
def padPacket (p : List Byte) : List Byte :=
  match Opcode.ofByte (byteAt p 0) with
  | none => p
  | some op => p ++ List.replicate (op.packetLength p - p.length) 0

/-- The packet of an opcode-table row: its `nbits / 8` bytes, first byte in the low bits of `w`, then zeros. -/
def tablePacket (nbits w : Nat) : List Byte := padPacket (bytesOfNat (nbits / 8) w)

/-- What the decoder reads from a row of the opcode table (every operand byte above `nbits` is 0). -/
def decodeTableWord (nbits w : Nat) : Option Instr := (decode (tablePacket nbits w)).toOption

/-! ### The encoder -/

/-- The command packet of a well-formed command (30 R83). -/
def encode : Instr → List Byte
  | .getStatus => [0x01]
  | .getCounters => [0x02]
  | .setChannel idx val => [0x10, idx] ++ u16le val
  | .setChannels vals => [0x11, BitVec.ofNat 8 vals.length] ++ vals.flatMap u16le
  | .arm => [0x12]
  | .disarm => [0x13]
  | .resetControls => [0x14]
  | .startLink baud rate => [0x20] ++ u32le baud ++ u16le rate
  | .stopLink => [0x21]
  | .crc8 data => [0x30, BitVec.ofNat 8 data.length] ++ data
  | .pack vals => [0x31, BitVec.ofNat 8 vals.length] ++ vals.flatMap u16le
  | .unpack payload => [0x32] ++ payload.toList
  | .buildFrame addr frameType payload => [0x33, addr, frameType, BitVec.ofNat 8 payload.length] ++ payload
  | .parse buf => [0x34] ++ u16le (BitVec.ofNat 16 buf.length) ++ buf

end Sys2Proof
end

