-- ==== Sys2Proof/Machine/Ports.lean ====
section
/-! DEFINITION. The plain-data types of the block's ports and lifecycle: the lifecycle states, the environment's
answers, the agents' turns, the outbound events, the status codes and the parser's outcomes
(spec 10_state.md R21, 30_encoding.md R76, R86, R93, 42_frame_codec.md R142, 60_exceptions.md R240, R258). -/

namespace Sys2Proof.Machine

/-- The lifecycle state LSTATE (10 R21). -/
inductive LState where
  /-- 0: no transport is held. -/
  | closed
  /-- 1: transport acquired, transmitter and receiver not yet active. -/
  | opened
  /-- 2: transmitter and receiver active. -/
  | running
  /-- 3: stop requested, the final transmission is owed. -/
  | shuttingDown
  deriving DecidableEq, Repr, Inhabited

/-- The 2-bit encoding of LSTATE (10 R21, 92 D43). -/
def LState.code : LState → BitVec 2
  | .closed => 0
  | .opened => 1
  | .running => 2
  | .shuttingDown => 3

/-- The environment's answer to tp_open or tp_write (30 R76). -/
inductive Ack where
  | ok
  | err
  deriving DecidableEq, Repr, Inhabited

/-- The environment's answer to tp_read: a finite byte sequence, empty for a timeout, or an error (30 R76). -/
inductive ReadAns where
  | bytes (s : List Byte)
  | err
  deriving DecidableEq, Repr, Inhabited

/-- Whose step is next, with the packet where it is the host's: a host command, one of the steps without an encoding
(30 R93, 44 R213), or reset. -/
inductive Turn where
  /-- The host offers one whole command packet (30 R80). -/
  | command (packet : List Byte)
  /-- OPEN_DONE (44 R202). -/
  | openDone
  /-- TX_TICK (44 R203). -/
  | txTick
  /-- RX_READ (44 R205). -/
  | rxRead
  /-- RX_PARSE (44 R207). -/
  | rxParse
  /-- FINAL (44 R209). -/
  | finalTx
  /-- RESET, the rst port (70 R270). -/
  | reset
  deriving DecidableEq, Repr, Inhabited

/-- The agents that take the block's steps (60 R258). The environment takes none: it answers within another agent's. -/
inductive Agent where
  | host
  | transmitter
  | receiver
  | lifecycle
  | reset
  deriving DecidableEq, Repr

/-- Which agent takes a turn (60 R258). -/
def Turn.agent : Turn → Agent
  | .command _ => .host
  | .openDone => .lifecycle
  | .txTick => .transmitter
  | .rxRead => .receiver
  | .rxParse => .receiver
  | .finalTx => .transmitter
  | .reset => .reset

/-- The frame record the parser emits (42 R142: the crc field carries no information and is left out). -/
structure Frame where
  addr : Byte
  frameType : Byte
  payload : List Byte
  deriving DecidableEq, Repr

/-- An outbound event (00 R12, 30 R76). -/
inductive Event where
  | tpOpen (baud : Word)
  | tpWrite (bytes : List Byte)
  | tpRead
  | tpClose
  | frameOut (f : Frame)
  /-- link_error(TransportError), the only link error there is (30 R92). -/
  | linkError
  deriving DecidableEq, Repr

/-- The outcome of one parse_stream call (42 R143); a FRAME event carries its frame. -/
inductive ParseEvent where
  | needMore
  | frame (f : Frame)
  | crcMismatch
  | lenInvalid
  deriving DecidableEq, Repr

/-- The EVENT codes of the PARSE response (30 R86). -/
def ParseEvent.code : ParseEvent → Byte
  | .needMore => 0
  | .frame _ => 1
  | .crcMismatch => 2
  | .lenInvalid => 3

/-- The status names of a response packet (60 R240). -/
inductive Status where
  | ok
  | transportError
  | invalidChannelCount
  | notConnected
  | illegalCommand
  | badLength
  | badOperand
  | reservedChannel
  | badState
  deriving DecidableEq, Repr

/-- The STS byte (60 R240). -/
def Status.code : Status → Byte
  | .ok => 0x00
  | .transportError => 0x01
  | .invalidChannelCount => 0x02
  | .notConnected => 0x03
  | .illegalCommand => 0x04
  | .badLength => 0x05
  | .badOperand => 0x06
  | .reservedChannel => 0x07
  | .badState => 0x08

end Sys2Proof.Machine
end

