-- ==== Sys2Proof/Machine/Operands.lean ====
section
/-! DEFINITION. How a channel-value operand reaches the state or the packer: clamped or masked
(spec 00_scope.md R10, 30_encoding.md R82), and the two zero-selects-default operands of START_LINK
(44_link_fsm.md R201). -/

namespace Sys2Proof.Machine

/-- `clamp(v)` on the signed value of an s16 operand (00 R10). -/
def clamp (v : Half) : Chan :=
  if v.toInt < 0 then 0
  else if 2047 < v.toInt then 2047
  else BitVec.ofInt 11 v.toInt

/-- `mask11(v)`: the low 11 bits of the two's-complement pattern (00 R10). -/
def mask11 (v : Half) : Chan := v.setWidth 11

/-- A channel value as a 16-bit response field, zero-extended (30 R85). -/
def chanField (c : Chan) : Half := c.setWidth 16

/-- Sixteen operands as lanes; a lane past the end of the list is 0, where no rule reads (41 R125, 43 R174). -/
def lane (vals : List Half) (k : Nat) : Half := vals.getD k 0

end Sys2Proof.Machine
end

