-- ==== Sys2Proof/Config.lean ====
section
/-! DEFINITION. The fixed parameters the source gives (spec 00_scope.md R7), the parameter it leaves open
(00 R8 RXBUF_CAP) and the free values (00 R12 `draw`, the environment's answers, the agents' order). A free value is an
opaque constant applied to a counter of State: no proof can see what it is. -/

namespace Sys2Proof.Config

open Sys2Proof.Machine

/-- CRC_POLY, the DVB-S2 polynomial (00 R7). -/
def crcPoly : Byte := 0xD5

/-- CRC_INIT (00 R7). -/
def crcInit : Byte := 0x00

/-- ADDR_FC, the flight controller, which is also TX_ADDR (00 R7, R8). -/
def addrFc : Byte := 0xC8

/-- ADDR_TXMOD, the transmitter module (00 R7). -/
def addrTxMod : Byte := 0xEE

/-- TYPE_RC, RC_CHANNELS_PACKED (00 R7). -/
def typeRc : Byte := 0x16

/-- TYPE_BIND (00 R7). -/
def typeBind : Byte := 0x21

/-- CH_CENTER (00 R7). -/
def chCenter : Chan := 1024

/-- CH_MAX (00 R7). -/
def chMax : Chan := 2047

/-- DEFAULT_BAUD (00 R7). -/
def defaultBaud : Word := 420000

/-- DEFAULT_RATE_HZ (00 R7). -/
def defaultRate : Half := 50

/-- How far RXBUF_CAP lies above its lower bound: left open by the spec (00 R8, 92 D19; log 5). -/
opaque rxbufExtra : Nat

/-- RXBUF_CAP: any capacity of at least 257 bytes (00 R8, 92 D19; log 5). -/
def rxbufCap : Nat := rxbufExtra + 257

/-- The 32-bit timestamp a GET_STATUS draws, under no law (44 R211, 92 D28; log 4). -/
opaque freeTimestamp : Nat → Word

/-- The answer to a tp_open for which State lists none (93 I9; log 3). -/
opaque freeOpenAns : Nat → Ack

/-- The answer to a tp_write for which State lists none (93 I9; log 3). -/
opaque freeWriteAns : Nat → Ack

/-- The answer to a tp_read for which State lists none (93 I9; log 3). -/
opaque freeReadAns : Nat → ReadAns

/-- Whose step is next where State lists no turn (93 I10; log 1). -/
opaque freeTurn : Nat → Turn

end Sys2Proof.Config
end

