-- ==== Sys2Proof/Machine/State.lean ====
section
/-! DEFINITION. The state of the block (spec 10_state.md R20: "nothing else is state"), with the model's own fields for
the inputs it reads and the outputs it records (10 R44, 44 R217), the reset state (10 R41, 70 R270, R275), and the
reasons a step can stop. -/

namespace Sys2Proof.Machine

/-- Why the block could stop with a fault: never. The spec has no `fault` or `stuck` behaviour (93 section 1: "No behaviour of
the block is a `fault` or `stuck`"), so there is no constructor (log 11; safe). -/
inductive Fault
  deriving DecidableEq, Repr

/-- Why a step could be refused. -/
inductive Refusal where
  /-- Raised by an arm of `exec` whose instruction has no meaning yet; safe. No arm raises it. -/
  | notModelled (mnemonic : String)
  deriving DecidableEq, Repr

/-- What the outside world has ready for the block: the MODEL's own inputs, not the spec's state (10 R44; log 1, 3). -/
structure Inputs where
  /-- Whose steps come next, the next one first (44 R213). -/
  turns : List Turn
  /-- The answers to the coming tp_open requests. -/
  openAns : List Ack
  /-- The answers to the coming tp_write requests. -/
  writeAns : List Ack
  /-- The answers to the coming tp_read requests. -/
  readAns : List ReadAns
  deriving DecidableEq, Repr

/-- No input listed. -/
def Inputs.none : Inputs := { turns := [], openAns := [], writeAns := [], readAns := [] }

/-- The state of the block. The first eleven fields are 10 R20; the last four are the model's own. -/
structure State where
  /-- LSTATE (10 R21). -/
  lstate : LState
  /-- CH[0..15] (10 R22). -/
  ch : Vector Chan 16
  /-- ARMED (10 R25). -/
  armed : Bool
  /-- LAST_ERR (10 R27). -/
  lastErr : Bool
  /-- CFG_BAUD (10 R28). -/
  cfgBaud : Word
  /-- CFG_RATE (10 R29). -/
  cfgRate : Half
  /-- CRC_ERR_CNT (10 R30). -/
  crcErrCnt : Word
  /-- LEN_ERR_CNT (10 R31). -/
  lenErrCnt : Word
  /-- RX_OVF_CNT (10 R32). -/
  rxOvfCnt : Word
  /-- RXBUF, oldest byte first (10 R33). -/
  rxbuf : List Byte
  /-- CRCR, the working register of the CRC unit (10 R34; log 6). -/
  crcr : Byte
  /-- The inputs the outside world has ready (log 1, 3). -/
  inp : Inputs
  /-- How many free values have been drawn; the next one is applied to it (log 4). -/
  draws : Nat
  /-- The response packets sent, oldest first (44 R217). -/
  responses : List (List Byte)
  /-- The events emitted, oldest first (44 R217). -/
  trace : List Event
  deriving DecidableEq, Repr

/-- The session defaults of the channel file: throttle 0, all others centred (43 R179). -/
def defaultChannels : Vector Chan 16 := (Vector.replicate 16 Config.chCenter).set 2 0

/-- The machine right after reset (10 R41), at the launch premise `clean_reset` (70 R275). -/
def State.reset : State where
  lstate := .closed
  ch := defaultChannels
  armed := false
  lastErr := false
  cfgBaud := Config.defaultBaud
  cfgRate := Config.defaultRate
  crcErrCnt := 0
  lenErrCnt := 0
  rxOvfCnt := 0
  rxbuf := []
  crcr := 0
  inp := Inputs.none
  draws := 0
  responses := []
  trace := []

end Sys2Proof.Machine
end

