-- ==== Sys2Proof/Machine/Ops.lean ====
section
/-! DEFINITION. The named operations over the state: reading the inputs, responding and emitting events, the channel
register file and the safety operations, raising a synchronous error and entering Closed on a TransportError
(spec 00_scope.md R12, 43_channel_state.md R170 to R180, 44_link_fsm.md R206, R210, 60_exceptions.md R240, R254).
There is no return-from-error operation (60 R255). -/

namespace Sys2Proof.Machine

/-! ### Inputs (log 1, 3) -/

/-- Whose step is next: the first listed turn, or a free one. -/
def State.nextTurn (s : State) : Turn :=
  match s.inp.turns with
  | [] => Config.freeTurn s.draws
  | t :: _ => t

/-- The state once that turn is taken from the inputs. -/
def State.popTurn (s : State) : State :=
  match s.inp.turns with
  | [] => { s with draws := s.draws + 1 }
  | _ :: ts => { s with inp := { s.inp with turns := ts } }

/-- The environment's answer to a tp_open in this step: the first listed one, or a free one. -/
def State.openAnswer (s : State) : Ack :=
  match s.inp.openAns with
  | [] => Config.freeOpenAns s.draws
  | a :: _ => a

/-- The state once that answer is taken from the inputs. -/
def State.popOpen (s : State) : State :=
  match s.inp.openAns with
  | [] => { s with draws := s.draws + 1 }
  | _ :: as => { s with inp := { s.inp with openAns := as } }

/-- The environment's answer to a tp_write in this step: the first listed one, or a free one. -/
def State.writeAnswer (s : State) : Ack :=
  match s.inp.writeAns with
  | [] => Config.freeWriteAns s.draws
  | a :: _ => a

/-- The state once that answer is taken from the inputs. -/
def State.popWrite (s : State) : State :=
  match s.inp.writeAns with
  | [] => { s with draws := s.draws + 1 }
  | _ :: as => { s with inp := { s.inp with writeAns := as } }

/-- The environment's answer to a tp_read in this step: the first listed one, or a free one. -/
def State.readAnswer (s : State) : ReadAns :=
  match s.inp.readAns with
  | [] => Config.freeReadAns s.draws
  | a :: _ => a

/-- The state once that answer is taken from the inputs. -/
def State.popRead (s : State) : State :=
  match s.inp.readAns with
  | [] => { s with draws := s.draws + 1 }
  | _ :: as => { s with inp := { s.inp with readAns := as } }

/-! ### Outputs -/

/-- `respond(bytes)` (00 R12). -/
def State.respond (s : State) (bytes : List Byte) : State := { s with responses := s.responses ++ [bytes] }

/-- `emit E` (00 R12). -/
def State.emit (s : State) (e : Event) : State := { s with trace := s.trace ++ [e] }

/-- A response that is the status byte alone (30 R85). -/
def State.respondStatus (s : State) (st : Status) : State := s.respond [st.code]

/-! ### Synchronous errors -/

/-- `raise`: a synchronous error answers its one status byte and writes nothing (00 R12, 60 R254). -/
def raise (e : Status) (s : State) : Host.Outcome State Fault Refusal := .next (s.respondStatus e)

/-- The status a rejected packet answers (30 R84). -/
def errorStatus : DecodeError → Status
  | .badLength => .badLength
  | .illegalCommand => .illegalCommand

/-! ### The channel register file and the safety operations -/

/-- `get_snapshot()`: a copy of the whole channel file (43 R170). -/
def State.snapshot (s : State) : Vector Chan 16 := s.ch

/-- `CH[i] <- v` (00 R11). -/
def State.setCh (s : State) (i : Nat) (v : Chan) : State := { s with ch := s.ch.setIfInBounds i v }

/-- LSTATE in {1 (Open), 2 (Running)}: the states that accept channel and safety commands (43 R173 to R177). -/
def State.acceptsControl (s : State) : Bool :=
  match s.lstate with
  | .closed => false
  | .opened => true
  | .running => true
  | .shuttingDown => false

/-- "connected": a transport handle is held (10 R40). -/
def State.connected (s : State) : Bool :=
  match s.lstate with
  | .closed => false
  | .opened => true
  | .running => true
  | .shuttingDown => true

/-- `arm()` (43 R175). -/
def State.arm (s : State) : State := { s.setCh 4 Config.chMax with armed := true }

/-- `disarm()` (43 R176). -/
def State.disarm (s : State) : State := { s.setCh 4 Config.chCenter with armed := false }

/-- `reset_controls()`: roll, pitch and yaw centred (43 R177). -/
def State.resetControls (s : State) : State :=
  ((s.setCh 0 Config.chCenter).setCh 1 Config.chCenter).setCh 3 Config.chCenter

/-- `shutdown_sequence()`: throttle 0, then disarm (43 R178). -/
def State.shutdownSequence (s : State) : State := (s.setCh 2 0).disarm

/-- The session defaults (43 R179). -/
def State.sessionDefaults (s : State) : State := { s with ch := defaultChannels, armed := false }

/-- The failsafe on a TransportError (43 R180). -/
def State.failsafe (s : State) : State := { (s.setCh 2 0).setCh 4 Config.chCenter with armed := false }

/-! ### Closing -/

/-- `enter_closed_on_error()`: the entry of an asynchronous TransportError (44 R210, 60 R254). -/
def State.enterClosedOnError (s : State) : State :=
  let s := s.failsafe
  let s := { s with lastErr := true }
  let s := s.emit .linkError
  let s := s.emit .tpClose
  { s with rxbuf := [], lstate := .closed }

/-! ### The receive buffer -/

/-- `rx_append(x)`: kept while there is room, else dropped and counted modulo 2^32 (44 R206). -/
def State.rxAppend (s : State) (x : Byte) : State :=
  if s.rxbuf.length < Config.rxbufCap then { s with rxbuf := s.rxbuf ++ [x] }
  else { s with rxOvfCnt := s.rxOvfCnt + 1 }

/-- `rx_append` on each byte in order (44 R205). -/
def State.rxAppendAll (s : State) (xs : List Byte) : State := xs.foldl State.rxAppend s

end Sys2Proof.Machine
end

