-- ==== Sys2Proof/Machine/ChannelCommands.lean ====
section
/-! DEFINITION. The channel and safety commands: SET_CHANNEL, SET_CHANNELS, ARM, DISARM, RESET_CONTROLS
(spec 43_channel_state.md R173 to R177). The length check of each rule is the decoder's (30_encoding.md R84). -/

namespace Sys2Proof.Machine

/-- A control command that needs LSTATE in {1, 2}: NotConnected elsewhere (43 R173 to R177, 60 R246). -/
def whenControllable (s s' : State) : Host.Outcome State Fault Refusal :=
  if s.acceptsControl then .next (s'.respondStatus .ok) else raise .notConnected s

/-- `replace` without CH[4]: every other channel clamped from its lane, VAL_4 ignored (43 R172, R174). -/
def State.replaceChannels (s : State) (vals : List Half) : State :=
  { s with ch := s.ch.mapIdx fun k c => if k = 4 then c else clamp (lane vals k) }

/-- SET_CHANNEL (43 R173). -/
def execSetChannel (idx : Byte) (val : Half) (s : State) : Host.Outcome State Fault Refusal :=
  if 15 < idx.toNat then raise .badOperand s
  else if idx.toNat = 4 then raise .reservedChannel s
  else whenControllable s (s.setCh idx.toNat (clamp val))

/-- SET_CHANNELS (43 R174). -/
def execSetChannels (vals : List Half) (s : State) : Host.Outcome State Fault Refusal :=
  if vals.length ≠ 16 then raise .invalidChannelCount s
  else whenControllable s (s.replaceChannels vals)

/-- ARM (43 R175). -/
def execArm (s : State) : Host.Outcome State Fault Refusal := whenControllable s s.arm

/-- DISARM (43 R176). -/
def execDisarm (s : State) : Host.Outcome State Fault Refusal := whenControllable s s.disarm

/-- RESET_CONTROLS (43 R177). -/
def execResetControls (s : State) : Host.Outcome State Fault Refusal := whenControllable s s.resetControls

end Sys2Proof.Machine
end

