-- ==== Sys2Proof/Machine/Crc.lean ====
section
/-! DEFINITION. The checksum unit: the bit loop, the fold over a byte sequence, the table form, and the unit's two
operations on CRCR (spec 40_crc8_dvb_s2.md R100 to R105). -/

namespace Sys2Proof.Machine

/-- One of the 8 division steps: shift left, and subtract the polynomial when bit 7 was set (40 R100). -/
def crcShift (c : Byte) : Byte :=
  if c.getLsbD 7 then (c <<< 1) ^^^ Config.crcPoly else c <<< 1

/-- `n` division steps. -/
def crcShifts : Nat → Byte → Byte
  | 0, c => c
  | n + 1, c => crcShifts n (crcShift c)

/-- `crc_step8(c, b)`: one byte of polynomial division, most significant bit first (40 R100). -/
def crcStep8 (c b : Byte) : Byte := crcShifts 8 (c ^^^ b)

/-- `crc8(s)` (40 R101). -/
def crc8 (s : List Byte) : Byte := s.foldl crcStep8 Config.crcInit

/-- The table entry `T[i] = crc8([i])` (40 R102). -/
def crcTable (i : Byte) : Byte := crc8 [i]

/-- The table form of `crc8` (40 R102). -/
def crc8ByTable (s : List Byte) : Byte := s.foldl (fun c b => crcTable (c ^^^ b)) Config.crcInit

/-- `CRC_CLEAR` (40 R105). -/
def State.crcClear (s : State) : State := { s with crcr := Config.crcInit }

/-- `CRC_UPDATE(b)` (40 R105). -/
def State.crcUpdate (s : State) (b : Byte) : State := { s with crcr := crcStep8 s.crcr b }

/-- A use of the unit: CRC_CLEAR, then CRC_UPDATE on each byte in order; the result is then read from CRCR (40 R105).
The steps take that result as `crc8` and leave CRCR alone, as 10 R34 allows (log 6). -/
def State.crcUse (s : State) (bytes : List Byte) : State := bytes.foldl State.crcUpdate s.crcClear

end Sys2Proof.Machine
end

