-- ==== Sys2Proof/Machine/Packer.lean ====
section
/-! DEFINITION. The channel packer: 16 channels of 11 bits to and from a 22-byte payload, as one 176-bit little-endian
bitstream (spec 41_channel_packer.md R120 to R122). -/

namespace Sys2Proof.Machine

/-- The 176-bit stream of 16 channel values: channel `i` at bits `11i+10 .. 11i` (41 R120, R121). -/
def packStream (v : Vector Chan 16) : BitVec 176 :=
  (List.finRange 16).foldl (fun (acc : BitVec 176) (i : Fin 16) => acc ||| (v[i].setWidth 176 <<< (11 * i.val))) 0

/-- `pack`: byte `j` is stream bits `8j+7 .. 8j` (41 R120). The lanes are 11 bits wide; wider inputs are masked before. -/
def pack (v : Vector Chan 16) : Vector Byte 22 := Vector.ofFn fun j => (packStream v).extractLsb' (8 * j.val) 8

/-- The 176-bit stream of 22 bytes: byte `j` at bits `8j+7 .. 8j` (41 R122; the summands share no bit). -/
def byteStream (p : Vector Byte 22) : BitVec 176 :=
  (List.finRange 22).foldl (fun (acc : BitVec 176) (j : Fin 22) => acc ||| (p[j].setWidth 176 <<< (8 * j.val))) 0

/-- `unpack`: channel `i` is stream bits `11i+10 .. 11i` (41 R122). -/
def unpack (p : Vector Byte 22) : Vector Chan 16 :=
  Vector.ofFn fun i => (byteStream p).extractLsb' (11 * i.val) 11

end Sys2Proof.Machine
end

