-- ==== Sys2Proof/Machine/Codec.lean ====
section
/-! DEFINITION. The frame codec: build_frame and parse_stream (spec 42_frame_codec.md R140 to R148), and the channel frame
of the transmitter (44_link_fsm.md R204). -/

namespace Sys2Proof.Machine

/-- `build_frame(dest_addr, frame_type, payload)`, for a payload of at most 253 bytes (42 R140, R141). -/
def buildFrame (addr frameType : Byte) (payload : List Byte) : List Byte :=
  [addr, BitVec.ofNat 8 (payload.length + 2), frameType] ++ payload ++ [crc8 (frameType :: payload)]

/-- `parse_stream(buffer)`: the bytes consumed and the event, a FRAME event with its frame (42 R143). -/
def parseStream (buf : List Byte) : Nat × ParseEvent :=
  if buf.length < 2 then (0, .needMore)
  else
    let addr := byteAt buf 0
    let len := (byteAt buf 1).toNat
    if len < 2 then (1, .lenInvalid)
    else
      let totalLen := len + 2
      if buf.length < totalLen then (0, .needMore)
      else
        let frameType := byteAt buf 2
        let payload := slice buf 3 (3 + len - 2)
        let crcByte := byteAt buf (3 + len - 2)
        if crcByte = crc8 (frameType :: payload) then
          (totalLen, .frame { addr := addr, frameType := frameType, payload := payload })
        else (1, .crcMismatch)

/-- The frame the transmitter sends for a channel snapshot: to the flight controller, type RC_CHANNELS_PACKED
(44 R204). -/
def channelFrame (snap : Vector Chan 16) : List Byte :=
  buildFrame Config.addrFc Config.typeRc (pack snap).toList

end Sys2Proof.Machine
end

