-- ==== Sys2Proof/Machine/CodecCommands.lean ====
section
/-! DEFINITION. The pure commands CRC8, PACK, UNPACK, BUILD_FRAME and PARSE (spec 40_crc8_dvb_s2.md R106,
41_channel_packer.md R125, R126, 42_frame_codec.md R150, R151). They are accepted in every LSTATE and change no state
(20_memory.md R57). The length check of each rule is the decoder's (30_encoding.md R84). -/

namespace Sys2Proof.Machine

/-- The OK response with the given result bytes (30 R85). -/
def respondResult (s : State) (result : List Byte) : Host.Outcome State Fault Refusal :=
  .next (s.respond (Status.ok.code :: result))

/-- The result bytes of PARSE: CONSUMED, EVENT, and a frame's fields (30 R85, 42 R151). -/
def parseResult (n : Nat) (ev : ParseEvent) : List Byte :=
  u16le (BitVec.ofNat 16 n) ++ [ev.code] ++
    match ev with
    | .needMore => []
    | .frame f => [f.addr, f.frameType, BitVec.ofNat 8 f.payload.length] ++ f.payload
    | .crcMismatch => []
    | .lenInvalid => []

/-- CRC8 (40 R106). -/
def execCrc8 (data : List Byte) (s : State) : Host.Outcome State Fault Refusal := respondResult s [crc8 data]

/-- PACK: each operand masked to 11 bits, then packed (41 R125). -/
def execPack (vals : List Half) (s : State) : Host.Outcome State Fault Refusal :=
  if vals.length ≠ 16 then raise .invalidChannelCount s
  else respondResult s (pack (Vector.ofFn fun i : Fin 16 => mask11 (lane vals i.val))).toList

/-- UNPACK (41 R126). -/
def execUnpack (payload : Vector Byte 22) (s : State) : Host.Outcome State Fault Refusal :=
  respondResult s ((unpack payload).toList.flatMap fun c => u16le (chanField c))

/-- BUILD_FRAME (42 R150). -/
def execBuildFrame (addr frameType : Byte) (payload : List Byte) (s : State) : Host.Outcome State Fault Refusal :=
  if 253 < payload.length then raise .badOperand s
  else respondResult s (buildFrame addr frameType payload)

/-- PARSE (42 R151). -/
def execParse (buf : List Byte) (s : State) : Host.Outcome State Fault Refusal :=
  respondResult s (parseResult (parseStream buf).1 (parseStream buf).2)

end Sys2Proof.Machine
end

