-- ==== Sys2Proof/Machine/LinkCommands.lean ====
section
/-! DEFINITION. START_LINK and STOP_LINK (spec 44_link_fsm.md R201, R208). -/

namespace Sys2Proof.Machine

/-- CFG_BAUD and CFG_RATE from the operands, where 0 selects the default (44 R201). -/
def State.configure (s : State) (baud : Word) (rate : Half) : State :=
  { s with
    cfgBaud := if baud = 0 then Config.defaultBaud else baud
    cfgRate := if rate = 0 then Config.defaultRate else rate }

/-- The start of a session: defaults, an empty RXBUF, LAST_ERR cleared, Open (44 R201, 10 R42). -/
def State.startSession (s : State) : State := { s.sessionDefaults with rxbuf := [], lastErr := false, lstate := .opened }

/-- What the answer to tp_open leads to (44 R201): the session starts, or a synchronous TransportError (60 R241). -/
def openResult (a : Ack) (s : State) : State :=
  match a with
  | .err => { s with lastErr := true }.respondStatus .transportError
  | .ok => s.startSession.respondStatus .ok

/-- START_LINK (44 R201). CFG_BAUD and CFG_RATE are written before the open, even when it fails. -/
def execStartLink (baud : Word) (rate : Half) (s : State) : Host.Outcome State Fault Refusal :=
  if s.lstate = .closed then
    let c := s.configure baud rate
    .next (openResult c.openAnswer (c.emit (.tpOpen c.cfgBaud)).popOpen)
  else raise .badState s

/-- STOP_LINK (44 R208). -/
def execStopLink (s : State) : Host.Outcome State Fault Refusal :=
  match s.lstate with
  | .closed => raise .notConnected s
  | .opened => .next ({ s.shutdownSequence with lstate := .shuttingDown }.respondStatus .ok)
  | .running => .next ({ s.shutdownSequence with lstate := .shuttingDown }.respondStatus .ok)
  | .shuttingDown => raise .badState s

end Sys2Proof.Machine
end

