-- ==== Sys2Proof/Machine/Flags.lean ====
section
/-! DEFINITION. The FLAGS byte of GET_STATUS (spec 30_encoding.md R87, 44_link_fsm.md R211). The block has no other flag
computation: ARMED and LAST_ERR are written by the operations of Ops. -/

namespace Sys2Proof.Machine

/-- A 1-bit flag as a byte. -/
def flagByte (b : Bool) : Byte := (BitVec.ofBool b).setWidth 8

/-- FLAGS = ARMED | (LSTATE != 0) << 1 | LSTATE << 2 | LAST_ERR << 4 (44 R211). -/
def flagsByte (armed connected : Bool) (ls : LState) (lastErr : Bool) : Byte :=
  flagByte armed ||| (flagByte connected <<< 1) ||| (ls.code.setWidth 8 <<< 2) ||| (flagByte lastErr <<< 4)

/-- The FLAGS byte of a state (30 R87). -/
def State.flags (s : State) : Byte := flagsByte s.armed s.connected s.lstate s.lastErr

end Sys2Proof.Machine
end

