-- ==== Sys2Proof/Machine/StatusCommands.lean ====
section
/-! DEFINITION. GET_STATUS and GET_COUNTERS (spec 44_link_fsm.md R211, R212). -/

namespace Sys2Proof.Machine

/-- The OK response of GET_STATUS: STS, FLAGS, the 16 channels, the timestamp (30 R85, 44 R211). -/
def State.statusPacket (s : State) (ts : Word) : List Byte :=
  [Status.ok.code, s.flags] ++ s.snapshot.toList.flatMap (fun c => u16le (chanField c)) ++ u32le ts

/-- The OK response of GET_COUNTERS (30 R85, 44 R212). -/
def State.countersPacket (s : State) : List Byte :=
  [Status.ok.code] ++ u32le s.crcErrCnt ++ u32le s.lenErrCnt ++ u32le s.rxOvfCnt

/-- GET_STATUS (44 R211); the timestamp is a free value (log 4). -/
def execGetStatus (s : State) : Host.Outcome State Fault Refusal :=
  .next ({ s with draws := s.draws + 1 }.respond (s.statusPacket (Config.freeTimestamp s.draws)))

/-- GET_COUNTERS (44 R212). -/
def execGetCounters (s : State) : Host.Outcome State Fault Refusal := .next (s.respond s.countersPacket)

end Sys2Proof.Machine
end

