-- ==== Sys2Proof/Machine/Dispatch.lean ====
section
/-! DEFINITION. The meaning of each host command, one arm per constructor of Instr (spec 30_encoding.md R83). -/

namespace Sys2Proof.Machine

def exec (i : Instr) (s : State) : Host.Outcome State Fault Refusal :=
  match i with
  | .getStatus => Sys2Proof.Machine.execGetStatus s
  | .getCounters => Sys2Proof.Machine.execGetCounters s
  | .setChannel idx val => Sys2Proof.Machine.execSetChannel idx val s
  | .setChannels vals => Sys2Proof.Machine.execSetChannels vals s
  | .arm => Sys2Proof.Machine.execArm s
  | .disarm => Sys2Proof.Machine.execDisarm s
  | .resetControls => Sys2Proof.Machine.execResetControls s
  | .startLink baud rate => Sys2Proof.Machine.execStartLink baud rate s
  | .stopLink => Sys2Proof.Machine.execStopLink s
  | .crc8 data => Sys2Proof.Machine.execCrc8 data s
  | .pack vals => Sys2Proof.Machine.execPack vals s
  | .unpack payload => Sys2Proof.Machine.execUnpack payload s
  | .buildFrame addr frameType payload => Sys2Proof.Machine.execBuildFrame addr frameType payload s
  | .parse buf => Sys2Proof.Machine.execParse buf s

end Sys2Proof.Machine
end

