-- ==== Sys2Proof/Machine/LinkSteps.lean ====
section
/-! DEFINITION. The steps without an encoding: OPEN_DONE, TX_TICK, RX_READ, RX_PARSE, FINAL and RESET, and when each is
enabled (spec 44_link_fsm.md R202 to R210, R213, 70_reset_and_hazards.md R270). -/

namespace Sys2Proof.Machine

/-- Which turn may be taken in which state (44 R213). A host command and reset always may. -/
def Turn.enabled (t : Turn) (s : State) : Bool :=
  match t with
  | .command _ => true
  | .openDone => s.lstate = .opened
  | .txTick => s.lstate = .running
  | .rxRead => s.lstate = .running
  | .rxParse => s.lstate = .running && 0 < (parseStream s.rxbuf).1
  | .finalTx => s.lstate = .shuttingDown
  | .reset => true

/-- OPEN_DONE (44 R202). -/
def State.openDoneStep (s : State) : State := { s with lstate := .running }

/-- What follows the answer to a TX_TICK's tp_write (44 R203). -/
def txResult (a : Ack) (s : State) : State :=
  match a with
  | .ok => s
  | .err => s.enterClosedOnError

/-- TX_TICK: one channel frame from the current snapshot (44 R203). -/
def State.txTickStep (s : State) : State :=
  txResult s.writeAnswer (s.emit (.tpWrite (channelFrame s.snapshot))).popWrite

/-- What follows the answer to an RX_READ's tp_read (44 R205). -/
def rxResult (a : ReadAns) (s : State) : State :=
  match a with
  | .bytes xs => s.rxAppendAll xs
  | .err => s.enterClosedOnError

/-- RX_READ: one return of the bounded-timeout read (44 R205). -/
def State.rxReadStep (s : State) : State := rxResult s.readAnswer (s.emit .tpRead).popRead

/-- What the receiver does with a parse event (44 R207). -/
def State.noteParse (s : State) (ev : ParseEvent) : State :=
  match ev with
  | .needMore => s
  | .frame f => s.emit (.frameOut f)
  | .crcMismatch => { s with crcErrCnt := s.crcErrCnt + 1 }
  | .lenInvalid => { s with lenErrCnt := s.lenErrCnt + 1 }

/-- RX_PARSE: one parse_stream call on RXBUF (44 R207). -/
def State.rxParseStep (s : State) : State :=
  { s with rxbuf := s.rxbuf.drop (parseStream s.rxbuf).1 }.noteParse (parseStream s.rxbuf).2

/-- What follows the answer to FINAL's tp_write: an error is latched and reported (44 R209). -/
def finalResult (a : Ack) (s : State) : State :=
  match a with
  | .ok => s
  | .err => { s with lastErr := true }.emit .linkError

/-- FINAL: the final frame, then Closed whatever the answer (44 R209). -/
def State.finalTxStep (s : State) : State :=
  let t := finalResult s.writeAnswer (s.emit (.tpWrite (channelFrame s.snapshot))).popWrite
  { t.emit .tpClose with rxbuf := [], lstate := .closed }

/-- RESET: a held transport is released and every element takes its reset value; no frame, no link_error, no response
(70 R270). The model's own fields stay (log 8). -/
def State.resetStep (s : State) : State :=
  let t := if s.lstate = .closed then s else s.emit .tpClose
  { t.sessionDefaults with
    lstate := .closed
    lastErr := false
    cfgBaud := Config.defaultBaud
    cfgRate := Config.defaultRate
    crcErrCnt := 0
    lenErrCnt := 0
    rxOvfCnt := 0
    rxbuf := []
    crcr := 0 }

end Sys2Proof.Machine
end

