-- ==== Sys2Proof/Machine/Turns.lean ====
section
/-! DEFINITION. One turn of one agent (spec 00_scope.md R13, 30_encoding.md R80, R84, 44_link_fsm.md R213). -/

namespace Sys2Proof.Machine

/-- A command packet: decoded and run, or answered with the decoder's error and no state change (30 R80, R84). -/
def commandStep (p : List Byte) (s : State) : Host.Outcome State Fault Refusal :=
  match decode p with
  | .error e => raise (errorStatus e) s
  | .ok i => exec i s

/-- The step of an enabled turn. -/
def enabledStep (t : Turn) (s : State) : Host.Outcome State Fault Refusal :=
  match t with
  | .command p => commandStep p s
  | .openDone => .next s.openDoneStep
  | .txTick => .next s.txTickStep
  | .rxRead => .next s.rxReadStep
  | .rxParse => .next s.rxParseStep
  | .finalTx => .next s.finalTxStep
  | .reset => .next s.resetStep

/-- One turn: its step where 44 R213 enables it; a turn that is not enabled passes and changes nothing (log 2). -/
def takeTurn (t : Turn) (s : State) : Host.Outcome State Fault Refusal :=
  if t.enabled s then enabledStep t s else .next s

end Sys2Proof.Machine
end

