-- ==== Sys2Proof/Machine/Step.lean ====
section
/-! DEFINITION. One step of the machine: the next turn is taken from the inputs and made (spec 00_scope.md R13; log 1), and
where a program's next command is placed (log 7). -/

namespace Sys2Proof.Machine

/-- One atomic step (00 R13). -/
def step (s : State) : Host.Outcome State Fault Refusal := takeTurn s.nextTurn s.popTurn

/-- `s` with the opcode-table row's packet as the host's command in the very next turn (log 7). -/
def State.withFetchWord (s : State) (nbits w : Nat) : State :=
  { s with inp := { s.inp with turns := .command (tablePacket nbits w) :: s.inp.turns } }

end Sys2Proof.Machine
end

