-- ==== Sys2Proof/Machine/Assembly.lean ====
section
/-! DEFINITION. The written form of a command and the pseudo-commands (spec 30_encoding.md R94, R95). -/

namespace Sys2Proof.Machine

/-- A byte or value list in brackets (30 R94). -/
def asmList (xs : List String) : String := "[" ++ ", ".intercalate xs ++ "]"

/-- An unsigned operand, in decimal (30 R94; log 13). -/
def asmNat (n : Nat) : String := n.repr

/-- An s16 operand, in decimal with its sign (30 R94; log 13). -/
def asmInt (v : Half) : String := if v.toInt < 0 then "-" ++ v.toInt.natAbs.repr else v.toInt.natAbs.repr

/-- A list of bytes. -/
def asmBytes (bs : List Byte) : String := asmList (bs.map fun b => asmNat b.toNat)

/-- A list of s16 values. -/
def asmHalves (vs : List Half) : String := asmList (vs.map asmInt)

/-- `MNEMONIC operands`, the operands separated by commas (30 R94). -/
def asm : Instr → String
  | .getStatus => "GET_STATUS"
  | .getCounters => "GET_COUNTERS"
  | .setChannel idx val => "SET_CHANNEL " ++ asmNat idx.toNat ++ ", " ++ asmInt val
  | .setChannels vals => "SET_CHANNELS " ++ asmHalves vals
  | .arm => "ARM"
  | .disarm => "DISARM"
  | .resetControls => "RESET_CONTROLS"
  | .startLink baud rate => "START_LINK " ++ asmNat baud.toNat ++ ", " ++ asmNat rate.toNat
  | .stopLink => "STOP_LINK"
  | .crc8 data => "CRC8 " ++ asmBytes data
  | .pack vals => "PACK " ++ asmHalves vals
  | .unpack payload => "UNPACK " ++ asmBytes payload.toList
  | .buildFrame addr frameType payload =>
    "BUILD_FRAME " ++ asmNat addr.toNat ++ ", " ++ asmNat frameType.toNat ++ ", " ++ asmBytes payload
  | .parse buf => "PARSE " ++ asmBytes buf

/-- `SET_ROLL v` (30 R95). -/
def setRoll (v : Half) : Instr := .setChannel 0 v

/-- `SET_PITCH v` (30 R95). -/
def setPitch (v : Half) : Instr := .setChannel 1 v

/-- `SET_THROTTLE v` (30 R95). -/
def setThrottle (v : Half) : Instr := .setChannel 2 v

/-- `SET_YAW v` (30 R95). -/
def setYaw (v : Half) : Instr := .setChannel 3 v

/-- `SET_AUX n, v` for n = 2..12; no other n has an expansion (30 R95). -/
def setAux (n : Nat) (v : Half) : Option Instr :=
  if 2 ≤ n ∧ n ≤ 12 then some (.setChannel (BitVec.ofNat 8 (n + 3)) v) else none

/-- `START_LINK` with no operands (30 R95). -/
def startLinkDefaults : Instr := .startLink 0 0

/-- `BIND_FRAME` (30 R75, R95). -/
def bindFrame : Instr := .buildFrame Config.addrTxMod Config.typeBind [0x01, 0x00, 0x00]

end Sys2Proof.Machine
end

