-- ==== Sys2Proof/Safety.lean ====
section
/-! DEFINITION. The terms claims use about whole runs: the invariants of the state, what the outside world may offer,
reachable states, infinite executions with the fairness the spec assumes, and the end of a run
(spec 10_state.md R26, R33, R43, 44_link_fsm.md R213, R214, R217). -/

namespace Sys2Proof

open Sys2Proof.Machine

/-- ARMED = 1 exactly when CH[4] = 2047, and CH[4] is 1024 or 2047 (10 R26). -/
structure ArmConsistent (s : State) : Prop where
  armed_iff : s.armed = true ↔ s.ch[4] = 2047
  two_valued : s.ch[4] = 1024 ∨ s.ch[4] = 2047

/-- In Closed, ARMED = 0 and CH[2] = 0 (10 R43). -/
def ClosedFailsafe (s : State) : Prop := s.lstate = .closed → s.armed = false ∧ s.ch[2] = 0

/-- In ShuttingDown the state is what shutdown_sequence left: CH[2] = 0, CH[4] = 1024, ARMED = 0 (43 R178, 44 R219). -/
def ShutdownFailsafe (s : State) : Prop :=
  s.lstate = .shuttingDown → s.ch[2] = 0 ∧ s.ch[4] = 1024 ∧ s.armed = false

/-- RXBUF holds at most RXBUF_CAP bytes, and none in Closed or Open, where no receiver step has run since it was
emptied (10 R33). -/
structure RxBounded (s : State) : Prop where
  within_cap : s.rxbuf.length ≤ Config.rxbufCap
  empty_closed : s.lstate = .closed → s.rxbuf = []
  empty_opened : s.lstate = .opened → s.rxbuf = []

/-- A safe state: every invariant above. -/
structure Inv (s : State) : Prop where
  arm : ArmConsistent s
  closed : ClosedFailsafe s
  shutdown : ShutdownFailsafe s
  rx : RxBounded s

/-- The outside world has `i` ready (70 R286): it may offer any inputs between steps. -/
def Machine.State.withInputs (s : State) (i : Inputs) : State := { s with inp := i }

/-- A reachable state: reset, then any number of steps under any inputs (00 R13, 70 R275). -/
inductive Reachable : State → Prop where
  | reset : Reachable State.reset
  | step (s s' : State) (i : Inputs) : Reachable s → Machine.step (s.withInputs i) = .next s' → Reachable s'

/-- `k` steps from `s` to `s'` under any inputs, every state on the way, `s'` among them, satisfying `P`. -/
inductive StepsWithin (P : State → Prop) (s : State) : State → Prop where
  | refl : StepsWithin P s s
  | step (t t' : State) (i : Inputs) :
      StepsWithin P s t → Machine.step (t.withInputs i) = .next t' → P t' → StepsWithin P s t'

/-- The turns of a list made one after the other. -/
def runTurns : List Turn → State → Host.Outcome State Fault Refusal
  | [], s => .next s
  | t :: ts, s =>
    match takeTurn t s with
    | .next s' => runTurns ts s'
    | .fault r => .fault r
    | .refused r => .refused r

/-- An infinite execution: the states before each step, and the inputs each step finds. -/
structure Execution where
  state : Nat → State
  inputs : Nat → Inputs
  steps : ∀ n, Machine.step ((state n).withInputs (inputs n)) = .next (state (n + 1))

/-- The turn step `n` of an execution takes. -/
def Execution.turn (x : Execution) (n : Nat) : Turn := ((x.state n).withInputs (x.inputs n)).nextTurn

/-- A turn that stays enabled is eventually taken (44 R214). -/
def Execution.WeaklyFair (x : Execution) (t : Turn) : Prop :=
  ∀ n, ∃ m, n ≤ m ∧ (t.enabled (x.state m) = false ∨ x.turn m = t)

/-- The fairness the spec assumes: OPEN_DONE, FINAL and RX_PARSE weakly fair, and TX_TICK taken infinitely often in an
execution that stays in Running (44 R214). -/
structure Execution.Fair (x : Execution) : Prop where
  openDone : x.WeaklyFair .openDone
  finalTx : x.WeaklyFair .finalTx
  rxParse : x.WeaklyFair .rxParse
  txTick : ∀ n, (∀ m, n ≤ m → (x.state m).lstate = .running) → ∃ m, n ≤ m ∧ x.turn m = .txTick

/-- The host has no further command to issue at step `n`: no turn from there on is a host packet (44 R217; log 15). -/
def Execution.HostDone (x : Execution) (n : Nat) : Prop := ∀ (m : Nat) (p : List Byte), n ≤ m → x.turn m ≠ .command p

/-- The run has ended at step `n` of an execution (44 R217). A session left in Running has no such step; a claim about it
speaks of finite prefixes. -/
structure RunEnded (x : Execution) (n : Nat) : Prop where
  host_done : x.HostDone n
  closed : (x.state n).lstate = .closed
  no_open_done : Turn.enabled .openDone (x.state n) = false
  no_final : Turn.enabled .finalTx (x.state n) = false

/-- What is observed of a run that ends in `s`: the elements of 10 R20, the response packets in order and the event trace
in order (44 R217). The model's own inputs and draw counter are no part of it. -/
def Machine.State.observation (s : State) : State := { s with inp := Inputs.none, draws := 0 }

end Sys2Proof
end

