-- ==== Sys2Proof/Certificates/Slice0/Obligations.lean ====
section
/-! DEFINITION. The statements for the provers, one `def Obligations.<Name> : Prop` each. Rule numbers are those of spec/.
"Nothing else changes" is said by record updates: a field that is not named keeps its value. -/

open Sys2Proof Sys2Proof.Machine

/-! ### Packets, decoding and the step -/

/-- Decode and encode agree: every well-formed command is read back from its packet with every operand (30 R83). -/
def Obligations.DecodeReadsBackEveryEncodedCommand : Prop :=
  ∀ i : Instr, i.WellFormed → decode (encode i) = .ok i

/-- Each accepted packet is the encoding of the one command it decodes to, and that command is well-formed (30 R83, R84). -/
def Obligations.AcceptedPacketIsItsCommandsEncoding : Prop :=
  ∀ (p : List Byte) (i : Instr), decode p = .ok i → i.WellFormed ∧ encode i = p

/-- 30 R84 with the lengths of 30 R83: an empty packet answers BAD_LENGTH, an opcode outside the table answers
ILLEGAL_COMMAND whatever follows, a packet too short for its count field or of another length than its opcode's answers
BAD_LENGTH; none of them changes any state. -/
def Obligations.RejectedPacketsAnswerAndChangeNothing : Prop :=
  (∀ s : State, takeTurn (.command []) s = .next { s with responses := s.responses ++ [[0x05]] }) ∧
  (∀ (b : Byte) (rest : List Byte) (s : State),
    b ∉ ([0x01, 0x02, 0x10, 0x11, 0x12, 0x13, 0x14, 0x20, 0x21, 0x30, 0x31, 0x32, 0x33, 0x34] : List Byte) →
    takeTurn (.command (b :: rest)) s = .next { s with responses := s.responses ++ [[0x04]] }) ∧
  (∀ (b : Byte) (rest : List Byte) (s : State),
    let p := b :: rest
    ((b ∈ ([0x01, 0x02, 0x12, 0x13, 0x14, 0x21] : List Byte) ∧ p.length ≠ 1) ∨
      (b = 0x10 ∧ p.length ≠ 4) ∨
      (b = 0x20 ∧ p.length ≠ 7) ∨
      (b = 0x32 ∧ p.length ≠ 23) ∨
      (b ∈ ([0x11, 0x31] : List Byte) ∧ (p.length < 2 ∨ p.length ≠ 2 + 2 * (byteAt p 1).toNat)) ∨
      (b = 0x30 ∧ (p.length < 2 ∨ p.length ≠ 2 + (byteAt p 1).toNat)) ∨
      (b = 0x33 ∧ (p.length < 4 ∨ p.length ≠ 4 + (byteAt p 3).toNat)) ∨
      (b = 0x34 ∧ (p.length < 3 ∨ p.length ≠ 3 + (byteAt p 1).toNat + 256 * (byteAt p 2).toNat))) →
    takeTurn (.command p) s = .next { s with responses := s.responses ++ [[0x05]] })

/-- Words written out from 30 R83 decode to the commands they stand for. -/
def Obligations.TableWordsDecode : Prop :=
  decode [0x01] = .ok .getStatus ∧
  decode [0x10, 0x02, 0xDC, 0x05] = .ok (.setChannel 2 1500) ∧
  decode [0x20, 0x00, 0xC2, 0x01, 0x00, 0x64, 0x00] = .ok (.startLink 115200 100) ∧
  decode [0x30, 0x02, 0x34, 0x12] = .ok (.crc8 [0x34, 0x12]) ∧
  decode [0x33, 0xEE, 0x21, 0x03, 0x01, 0x00, 0x00] = .ok (.buildFrame 0xEE 0x21 [0x01, 0x00, 0x00]) ∧
  decode [0x34, 0x02, 0x00, 0xC8, 0x00] = .ok (.parse [0xC8, 0x00])

/-- A step takes the next listed turn, or some turn when none is listed (the model's choice, log 1). -/
def Obligations.StepTakesTheNextTurn : Prop :=
  (∀ (s : State) (t : Turn) (ts : List Turn), s.inp.turns = t :: ts →
    step s = takeTurn t { s with inp := { s.inp with turns := ts } }) ∧
  (∀ s : State, s.inp.turns = [] → ∃ t : Turn, step s = takeTurn t { s with draws := s.draws + 1 })

/-- A step whose turn is a host packet that decodes to `i` is `exec i` on the state with that turn taken. -/
def Obligations.StepRunsTheDecodedCommand : Prop :=
  ∀ (s : State) (p : List Byte) (ts : List Turn) (i : Instr),
    s.inp.turns = .command p :: ts → decode p = .ok i →
    step s = exec i { s with inp := { s.inp with turns := ts } }

/-- The environment's listed answers are used in order, one for a request (the model's choice of where they stand, log 3). -/
def Obligations.ListedAnswersAreUsedInOrder : Prop :=
  (∀ (s : State) (a : Ack) (as : List Ack), s.inp.openAns = a :: as →
    s.openAnswer = a ∧ s.popOpen = { s with inp := { s.inp with openAns := as } }) ∧
  (∀ (s : State) (a : Ack) (as : List Ack), s.inp.writeAns = a :: as →
    s.writeAnswer = a ∧ s.popWrite = { s with inp := { s.inp with writeAns := as } }) ∧
  (∀ (s : State) (a : ReadAns) (as : List ReadAns), s.inp.readAns = a :: as →
    s.readAnswer = a ∧ s.popRead = { s with inp := { s.inp with readAns := as } })

/-- A turn that 44 R213 does not enable passes and changes nothing (passing is the model's choice, log 2). -/
def Obligations.DisabledTurnsPass : Prop :=
  ∀ s : State,
    (s.lstate ≠ .opened → takeTurn .openDone s = .next s) ∧
    (s.lstate ≠ .running → takeTurn .txTick s = .next s) ∧
    (s.lstate ≠ .running → takeTurn .rxRead s = .next s) ∧
    (s.lstate ≠ .running ∨ (parseStream s.rxbuf).1 = 0 → takeTurn .rxParse s = .next s) ∧
    (s.lstate ≠ .shuttingDown → takeTurn .finalTx s = .next s)

/-- Every command and every step answers a next state: nothing faults and nothing is refused (93 section 1). -/
def Obligations.NothingEverStops : Prop :=
  (∀ (i : Instr) (s : State), ∃ t : State, exec i s = .next t) ∧ (∀ s : State, ∃ t : State, step s = .next t)

/-- 30 R80: each command packet gets exactly one response, in its own step, and no other turn sends one. -/
def Obligations.EachCommandGetsOneResponse : Prop :=
  ∀ (t : Turn) (s s' : State), takeTurn t s = .next s' →
    match t with
    | .command _ => ∃ r : List Byte, s'.responses = s.responses ++ [r]
    | .openDone => s'.responses = s.responses
    | .txTick => s'.responses = s.responses
    | .rxRead => s'.responses = s.responses
    | .rxParse => s'.responses = s.responses
    | .finalTx => s'.responses = s.responses
    | .reset => s'.responses = s.responses

/-- 60 R240 and 30 R85: a response starts with a status byte of at most 0x08, and an error response is that byte alone. -/
def Obligations.ResponsesStartWithAStatusByte : Prop :=
  ∀ (p : List Byte) (s s' : State), takeTurn (.command p) s = .next s' →
    ∃ (sts : Byte) (result : List Byte),
      s'.responses = s.responses ++ [sts :: result] ∧ sts.toNat ≤ 8 ∧ (sts ≠ 0x00 → result = [])

/-! ### The checksum unit -/

/-- 40 R100 to R102: a step is the bit loop, most significant bit first, with polynomial 0xD5; crc8 folds it from 0; and the
table form equals both. -/
def Obligations.CrcTableFormEqualsBitLoop : Prop :=
  (∀ c b : Byte, crcStep8 c b = (fun r : Byte => if r.getLsbD 7 then (r <<< 1) ^^^ 0xD5 else r <<< 1)^[8] (c ^^^ b)) ∧
  crcStep8 0x00 0x80 = 0xEF ∧ crc8 [0x01] = 0xD5 ∧
  crc8 [] = 0x00 ∧ (∀ (s : List Byte) (b : Byte), crc8 (s ++ [b]) = crcStep8 (crc8 s) b) ∧
  (∀ i : Byte, crcTable i = crc8 [i]) ∧
  (∀ c b : Byte, crcStep8 c b = crcTable (c ^^^ b)) ∧ (∀ s : List Byte, crc8ByTable s = crc8 s)

/-- 40 R104: leading zeros are invisible, an appended CRC gives zero, and crc8 is linear on equal lengths. -/
def Obligations.CrcAlgebraicLaws : Prop :=
  (∀ (k : Nat) (s : List Byte), crc8 (List.replicate k 0x00 ++ s) = crc8 s) ∧
  (∀ s : List Byte, crc8 (s ++ [crc8 s]) = 0x00) ∧
  (∀ a b : List Byte, a.length = b.length → crc8 (List.zipWith (· ^^^ ·) a b) = crc8 a ^^^ crc8 b)

/-- 40 R105: a use of the unit leaves crc8 of the bytes in CRCR, whatever was there, and touches nothing else. -/
def Obligations.CrcUnitComputesCrc8 : Prop :=
  ∀ (s : State) (bytes : List Byte), s.crcUse bytes = { s with crcr := crc8 bytes }

/-- 40 R106: CRC8's packet, its answer, and that it writes no state. -/
def Obligations.Crc8CommandAnswersTheChecksum : Prop :=
  decode [0x30] = .error .badLength ∧
  (∀ (n : Byte) (data : List Byte),
    decode (0x30 :: n :: data) = if data.length = n.toNat then .ok (.crc8 data) else .error .badLength) ∧
  (∀ (data : List Byte) (s : State),
    exec (.crc8 data) s = .next { s with responses := s.responses ++ [[0x00, crc8 data]] })

/-! ### The channel packer -/

/-- 41 R121: bit `b` of channel `i` is bit `(11i + b) mod 8` of payload byte `(11i + b) div 8`. -/
def Obligations.PackPlacesEveryChannelBit : Prop :=
  ∀ (v : Vector Chan 16) (i b : Nat) (hi : i < 16) (hb : b < 11),
    ((pack v)[(11 * i + b) / 8]'(by omega)).getLsbD ((11 * i + b) % 8) = v[i].getLsbD b

/-- 41 R127: the payload byte by byte. -/
def Obligations.PayloadLayoutTable : Prop :=
  ∀ v : Vector Chan 16,
    (pack v)[0] = v[0].extractLsb' 0 8 ∧
    (pack v)[1] = v[1].extractLsb' 0 5 ++ v[0].extractLsb' 8 3 ∧
    (pack v)[2] = v[2].extractLsb' 0 2 ++ v[1].extractLsb' 5 6 ∧
    (pack v)[3] = v[2].extractLsb' 2 8 ∧
    (pack v)[4] = v[3].extractLsb' 0 7 ++ v[2].extractLsb' 10 1 ∧
    (pack v)[5] = v[4].extractLsb' 0 4 ++ v[3].extractLsb' 7 4 ∧
    (pack v)[6] = v[5].extractLsb' 0 1 ++ v[4].extractLsb' 4 7 ∧
    (pack v)[7] = v[5].extractLsb' 1 8 ∧
    (pack v)[8] = v[6].extractLsb' 0 6 ++ v[5].extractLsb' 9 2 ∧
    (pack v)[9] = v[7].extractLsb' 0 3 ++ v[6].extractLsb' 6 5 ∧
    (pack v)[10] = v[7].extractLsb' 3 8 ∧
    (pack v)[11] = v[8].extractLsb' 0 8 ∧
    (pack v)[12] = v[9].extractLsb' 0 5 ++ v[8].extractLsb' 8 3 ∧
    (pack v)[13] = v[10].extractLsb' 0 2 ++ v[9].extractLsb' 5 6 ∧
    (pack v)[14] = v[10].extractLsb' 2 8 ∧
    (pack v)[15] = v[11].extractLsb' 0 7 ++ v[10].extractLsb' 10 1 ∧
    (pack v)[16] = v[12].extractLsb' 0 4 ++ v[11].extractLsb' 7 4 ∧
    (pack v)[17] = v[13].extractLsb' 0 1 ++ v[12].extractLsb' 4 7 ∧
    (pack v)[18] = v[13].extractLsb' 1 8 ∧
    (pack v)[19] = v[14].extractLsb' 0 6 ++ v[13].extractLsb' 9 2 ∧
    (pack v)[20] = v[15].extractLsb' 0 3 ++ v[14].extractLsb' 6 5 ∧
    (pack v)[21] = v[15].extractLsb' 3 8

/-- 41 R123: unpacking a packed list gives its masked values, and packing an unpacked payload gives the payload. -/
def Obligations.PackAndUnpackAreInverse : Prop :=
  (∀ v : Vector Half 16, unpack (pack (v.map mask11)) = v.map mask11) ∧
  (∀ v : Vector Chan 16, unpack (pack v) = v) ∧ (∀ p : Vector Byte 22, pack (unpack p) = p)

/-- 41 R125: PACK's packet; a count other than 16 answers INVALID_CHANNEL_COUNT; 16 values are masked to their low 11 bits
and packed; no state is written. -/
def Obligations.PackCommandMasksAndPacks : Prop :=
  decode [0x31] = .error .badLength ∧
  (∀ (lo hi : Byte) (body : List Byte), halves (lo :: hi :: body) = (hi ++ lo) :: halves body) ∧
  (∀ (n : Byte) (body : List Byte),
    decode (0x31 :: n :: body) = if body.length = 2 * n.toNat then .ok (.pack (halves body)) else .error .badLength) ∧
  (∀ (vals : List Half) (s : State), vals.length ≠ 16 →
    exec (.pack vals) s = .next { s with responses := s.responses ++ [[0x02]] }) ∧
  (∀ (vals : Vector Half 16) (s : State),
    exec (.pack vals.toList) s =
      .next { s with responses := s.responses ++ [0x00 :: (pack (vals.map fun v => v.extractLsb' 0 11)).toList] })

/-- 41 R126: UNPACK's packet, its answer of 16 zero-extended values, and that it writes no state. -/
def Obligations.UnpackCommandAnswersTheChannels : Prop :=
  (∀ h : Half, ∃ lo hi : Byte, u16le h = [lo, hi] ∧ h = hi ++ lo) ∧
  (∀ rest : List Byte, rest.length ≠ 22 → decode (0x32 :: rest) = .error .badLength) ∧
  (∀ p : Vector Byte 22, decode (0x32 :: p.toList) = .ok (.unpack p)) ∧
  (∀ (p : Vector Byte 22) (s : State),
    exec (.unpack p) s =
      .next { s with
        responses := s.responses ++ [0x00 :: (unpack p).toList.flatMap fun c => u16le (c.setWidth 16)] })

/-! ### The frame codec -/

/-- 42 R143 to R148: the parser's five cases. -/
def Obligations.ParseStreamFollowsItsFiveCases : Prop :=
  (∀ buf : List Byte, buf.length < 2 → parseStream buf = (0, .needMore)) ∧
  (∀ (addr len : Byte) (rest : List Byte), len.toNat < 2 → parseStream (addr :: len :: rest) = (1, .lenInvalid)) ∧
  (∀ (addr len : Byte) (rest : List Byte), 2 ≤ len.toNat → rest.length < len.toNat →
    parseStream (addr :: len :: rest) = (0, .needMore)) ∧
  (∀ (addr len ty crc : Byte) (payload rest : List Byte), len.toNat = payload.length + 2 →
    crc = crc8 (ty :: payload) →
    parseStream (addr :: len :: ty :: (payload ++ crc :: rest)) =
      (len.toNat + 2, .frame { addr := addr, frameType := ty, payload := payload })) ∧
  (∀ (addr len ty crc : Byte) (payload rest : List Byte), len.toNat = payload.length + 2 →
    crc ≠ crc8 (ty :: payload) →
    parseStream (addr :: len :: ty :: (payload ++ crc :: rest)) = (1, .crcMismatch))

/-- 42 R149: what `consumed` is for each event, that it never passes the buffer, and that 257 bytes always progress. -/
def Obligations.ParseStreamConsumptionBounds : Prop :=
  ∀ buf : List Byte,
    ((parseStream buf).1 = 0 ↔ (parseStream buf).2 = .needMore) ∧
    ((parseStream buf).2 = .lenInvalid → (parseStream buf).1 = 1) ∧
    ((parseStream buf).2 = .crcMismatch → (parseStream buf).1 = 1) ∧
    (∀ f : Frame, (parseStream buf).2 = .frame f → (parseStream buf).1 = (byteAt buf 1).toNat + 2) ∧
    (parseStream buf).1 ≤ buf.length ∧
    (257 ≤ buf.length → 0 < (parseStream buf).1)

/-- 42 R152: parsing a built frame, followed by anything, gives its fields back and consumes the whole frame. -/
def Obligations.ParsingABuiltFrameGivesItBack : Prop :=
  ∀ (a t : Byte) (p rest : List Byte), p.length ≤ 253 →
    parseStream (buildFrame a t p ++ rest) = (p.length + 4, .frame { addr := a, frameType := t, payload := p })

/-- 42 R140, R150: BUILD_FRAME's packet; L > 253 answers BAD_OPERAND; otherwise the frame is answered; no state is written. -/
def Obligations.BuildFrameCommandAnswersTheFrame : Prop :=
  (∀ rest : List Byte, rest.length < 3 → decode (0x33 :: rest) = .error .badLength) ∧
  (∀ (a t l : Byte) (payload : List Byte),
    decode (0x33 :: a :: t :: l :: payload) =
      if payload.length = l.toNat then .ok (.buildFrame a t payload) else .error .badLength) ∧
  (∀ (a t : Byte) (payload : List Byte) (s : State), 253 < payload.length →
    exec (.buildFrame a t payload) s = .next { s with responses := s.responses ++ [[0x06]] }) ∧
  (∀ (a t : Byte) (payload : List Byte) (s : State), payload.length ≤ 253 →
    ∃ len : Byte, len.toNat = payload.length + 2 ∧
      exec (.buildFrame a t payload) s =
        .next { s with
          responses := s.responses ++ [0x00 :: ([a, len, t] ++ payload ++ [crc8 (t :: payload)])] })

/-- 42 R151: PARSE's packet, its answer for each event, and that it writes no state. -/
def Obligations.ParseCommandAnswersOneParse : Prop :=
  (∀ h : Half, ∃ lo hi : Byte, u16le h = [lo, hi] ∧ h = hi ++ lo) ∧
  (∀ rest : List Byte, rest.length < 2 → decode (0x34 :: rest) = .error .badLength) ∧
  (∀ (lo hi : Byte) (buf : List Byte),
    decode (0x34 :: lo :: hi :: buf) =
      if buf.length = lo.toNat + 256 * hi.toNat then .ok (.parse buf) else .error .badLength) ∧
  (∀ (buf : List Byte) (s : State) (n : Nat) (f : Frame), parseStream buf = (n, .frame f) →
    ∃ len : Byte, len.toNat = f.payload.length ∧
      exec (.parse buf) s =
        .next { s with
          responses := s.responses ++
            [0x00 :: (u16le (BitVec.ofNat 16 n) ++ [0x01, f.addr, f.frameType, len] ++ f.payload)] }) ∧
  (∀ (buf : List Byte) (s : State), (parseStream buf).2 = .needMore →
    exec (.parse buf) s = .next { s with responses := s.responses ++ [[0x00, 0x00, 0x00, 0x00]] }) ∧
  (∀ (buf : List Byte) (s : State), (parseStream buf).2 = .crcMismatch →
    exec (.parse buf) s = .next { s with responses := s.responses ++ [[0x00, 0x01, 0x00, 0x02]] }) ∧
  (∀ (buf : List Byte) (s : State), (parseStream buf).2 = .lenInvalid →
    exec (.parse buf) s = .next { s with responses := s.responses ++ [[0x00, 0x01, 0x00, 0x03]] })

/-! ### Channel and safety commands -/

/-- 43 R173: SET_CHANNEL's packet, its three errors in their order, and the clamped write of the one channel. -/
def Obligations.SetChannelClampsOneChannel : Prop :=
  (∀ rest : List Byte, rest.length ≠ 3 → decode (0x10 :: rest) = .error .badLength) ∧
  (∀ idx lo hi : Byte, decode [0x10, idx, lo, hi] = .ok (.setChannel idx (hi ++ lo))) ∧
  (∀ (idx : Byte) (val : Half) (s : State), 15 < idx.toNat →
    exec (.setChannel idx val) s = .next { s with responses := s.responses ++ [[0x06]] }) ∧
  (∀ (val : Half) (s : State),
    exec (.setChannel 4 val) s = .next { s with responses := s.responses ++ [[0x07]] }) ∧
  (∀ (idx : Byte) (val : Half) (s : State), idx.toNat ≤ 15 → idx ≠ 4 → s.lstate = .closed ∨ s.lstate = .shuttingDown →
    exec (.setChannel idx val) s = .next { s with responses := s.responses ++ [[0x03]] }) ∧
  (∀ (idx : Byte) (val : Half) (s : State) (hi : idx.toNat ≤ 15), idx ≠ 4 → s.lstate = .opened ∨ s.lstate = .running →
    ∃ c : Chan, (c.toNat : Int) = max 0 (min 2047 val.toInt) ∧
      exec (.setChannel idx val) s =
        .next { s with ch := s.ch.set idx.toNat c (by omega), responses := s.responses ++ [[0x00]] })

/-- 43 R174: SET_CHANNELS' packet, its two errors in their order, and the clamped write of every channel but CH[4]. -/
def Obligations.SetChannelsClampsAllButTheArmSwitch : Prop :=
  decode [0x11] = .error .badLength ∧
  (∀ (lo hi : Byte) (body : List Byte), halves (lo :: hi :: body) = (hi ++ lo) :: halves body) ∧
  (∀ (n : Byte) (body : List Byte),
    decode (0x11 :: n :: body) =
      if body.length = 2 * n.toNat then .ok (.setChannels (halves body)) else .error .badLength) ∧
  (∀ (vals : List Half) (s : State), vals.length ≠ 16 →
    exec (.setChannels vals) s = .next { s with responses := s.responses ++ [[0x02]] }) ∧
  (∀ (vals : List Half) (s : State), vals.length = 16 → s.lstate = .closed ∨ s.lstate = .shuttingDown →
    exec (.setChannels vals) s = .next { s with responses := s.responses ++ [[0x03]] }) ∧
  (∀ (vals : Vector Half 16) (s : State), s.lstate = .opened ∨ s.lstate = .running →
    ∃ ch' : Vector Chan 16,
      (∀ (k : Nat) (hk : k < 16), k ≠ 4 → (ch'[k].toNat : Int) = max 0 (min 2047 vals[k].toInt)) ∧
      ch'[4] = s.ch[4] ∧
      exec (.setChannels vals.toList) s = .next { s with ch := ch', responses := s.responses ++ [[0x00]] })

/-- 43 R175: ARM's packet, NOT_CONNECTED outside Open and Running, and CH[4] = 2047 with ARMED = 1. -/
def Obligations.ArmSetsTheArmSwitch : Prop :=
  (∀ rest : List Byte, decode (0x12 :: rest) = if rest = [] then .ok .arm else .error .badLength) ∧
  (∀ s : State, s.lstate = .closed ∨ s.lstate = .shuttingDown →
    exec .arm s = .next { s with responses := s.responses ++ [[0x03]] }) ∧
  (∀ s : State, s.lstate = .opened ∨ s.lstate = .running →
    exec .arm s = .next { s with ch := s.ch.set 4 2047, armed := true, responses := s.responses ++ [[0x00]] })

/-- 43 R176: DISARM's packet, NOT_CONNECTED outside Open and Running, and CH[4] = 1024 with ARMED = 0. -/
def Obligations.DisarmClearsTheArmSwitch : Prop :=
  (∀ rest : List Byte, decode (0x13 :: rest) = if rest = [] then .ok .disarm else .error .badLength) ∧
  (∀ s : State, s.lstate = .closed ∨ s.lstate = .shuttingDown →
    exec .disarm s = .next { s with responses := s.responses ++ [[0x03]] }) ∧
  (∀ s : State, s.lstate = .opened ∨ s.lstate = .running →
    exec .disarm s = .next { s with ch := s.ch.set 4 1024, armed := false, responses := s.responses ++ [[0x00]] })

/-- 43 R177: RESET_CONTROLS' packet, NOT_CONNECTED outside Open and Running, and channels 0, 1 and 3 centred. -/
def Obligations.ResetControlsCentresTheSticks : Prop :=
  (∀ rest : List Byte, decode (0x14 :: rest) = if rest = [] then .ok .resetControls else .error .badLength) ∧
  (∀ s : State, s.lstate = .closed ∨ s.lstate = .shuttingDown →
    exec .resetControls s = .next { s with responses := s.responses ++ [[0x03]] }) ∧
  (∀ s : State, s.lstate = .opened ∨ s.lstate = .running →
    ∃ ch' : Vector Chan 16,
      ch'[0] = 1024 ∧ ch'[1] = 1024 ∧ ch'[3] = 1024 ∧
      (∀ (k : Nat) (hk : k < 16), k ≠ 0 → k ≠ 1 → k ≠ 3 → ch'[k] = s.ch[k]) ∧
      exec .resetControls s = .next { s with ch := ch', responses := s.responses ++ [[0x00]] })

/-- 20 R57: reads and pure commands change no state (the draw counter is the model's own); the five control commands are
idempotent; a repeated START_LINK or STOP_LINK is refused. -/
def Obligations.ReadsPureCommandsAndIdempotency : Prop :=
  (∀ (i : Instr) (s t : State),
    (i = .getStatus ∨ i = .getCounters ∨ (∃ d, i = .crc8 d) ∨ (∃ v, i = .pack v) ∨ (∃ p, i = .unpack p) ∨
      (∃ a ty p, i = .buildFrame a ty p) ∨ (∃ b, i = .parse b)) →
    exec i s = .next t → ∃ (r : List Byte) (d : Nat), t = { s with responses := s.responses ++ [r], draws := d }) ∧
  (∀ (i : Instr) (s t : State) (r : List Byte),
    (i = .arm ∨ i = .disarm ∨ i = .resetControls ∨ (∃ x v, i = .setChannel x v) ∨ (∃ v, i = .setChannels v)) →
    exec i s = .next t → t.responses = s.responses ++ [r] →
    exec i t = .next { t with responses := t.responses ++ [r] }) ∧
  (∀ (baud : Word) (rate : Half) (s t : State), exec (.startLink baud rate) s = .next t → t.lstate ≠ s.lstate →
    exec (.startLink baud rate) t = .next { t with responses := t.responses ++ [[0x08]] }) ∧
  (∀ s t : State, exec .stopLink s = .next t → t.lstate ≠ s.lstate →
    exec .stopLink t = .next { t with responses := t.responses ++ [[0x08]] } ∧
    exec .stopLink { t with lstate := .closed } =
      .next { t with lstate := .closed, responses := t.responses ++ [[0x03]] })

/-! ### The link commands -/

/-- 44 R201: START_LINK's packet, BAD_STATE outside Closed, the failed open and the started session. The answer to tp_open
is an input; `popOpen` only takes it from the inputs. -/
def Obligations.StartLinkOpensASession : Prop :=
  (∀ rest : List Byte, rest.length ≠ 6 → decode (0x20 :: rest) = .error .badLength) ∧
  (∀ b0 b1 b2 b3 r0 r1 : Byte,
    decode [0x20, b0, b1, b2, b3, r0, r1] = .ok (.startLink (b3 ++ b2 ++ b1 ++ b0) (r1 ++ r0))) ∧
  (∀ (baud : Word) (rate : Half) (s : State), s.lstate ≠ .closed →
    exec (.startLink baud rate) s = .next { s with responses := s.responses ++ [[0x08]] }) ∧
  (∀ (baud : Word) (rate : Half) (s : State), s.lstate = .closed → s.openAnswer = .err →
    exec (.startLink baud rate) s =
      .next { s with
        cfgBaud := if baud = 0 then 420000 else baud
        cfgRate := if rate = 0 then 50 else rate
        lastErr := true
        trace := s.trace ++ [.tpOpen (if baud = 0 then 420000 else baud)]
        responses := s.responses ++ [[0x01]]
        inp := s.popOpen.inp
        draws := s.popOpen.draws }) ∧
  (∀ (baud : Word) (rate : Half) (s : State), s.lstate = .closed → s.openAnswer = .ok →
    ∃ ch' : Vector Chan 16,
      ch'[2] = 0 ∧ (∀ (k : Nat) (hk : k < 16), k ≠ 2 → ch'[k] = 1024) ∧
      exec (.startLink baud rate) s =
        .next { s with
          cfgBaud := if baud = 0 then 420000 else baud
          cfgRate := if rate = 0 then 50 else rate
          ch := ch'
          armed := false
          rxbuf := []
          lastErr := false
          lstate := .opened
          trace := s.trace ++ [.tpOpen (if baud = 0 then 420000 else baud)]
          responses := s.responses ++ [[0x00]]
          inp := s.popOpen.inp
          draws := s.popOpen.draws })

/-- 44 R208 with 43 R178: STOP_LINK's packet, its two errors, and throttle 0, disarmed, ShuttingDown. -/
def Obligations.StopLinkRunsTheShutdownSequence : Prop :=
  (∀ rest : List Byte, decode (0x21 :: rest) = if rest = [] then .ok .stopLink else .error .badLength) ∧
  (∀ s : State, s.lstate = .closed → exec .stopLink s = .next { s with responses := s.responses ++ [[0x03]] }) ∧
  (∀ s : State, s.lstate = .shuttingDown → exec .stopLink s = .next { s with responses := s.responses ++ [[0x08]] }) ∧
  (∀ s : State, s.lstate = .opened ∨ s.lstate = .running →
    exec .stopLink s =
      .next { s with
        ch := (s.ch.set 2 0).set 4 1024
        armed := false
        lstate := .shuttingDown
        responses := s.responses ++ [[0x00]] })

/-- 44 R211 with 30 R85: GET_STATUS' packet and its 38-byte answer, the timestamp being any value; no state is written. -/
def Obligations.GetStatusReportsTheState : Prop :=
  (∀ h : Half, ∃ lo hi : Byte, u16le h = [lo, hi] ∧ h = hi ++ lo) ∧
  (∀ rest : List Byte, decode (0x01 :: rest) = if rest = [] then .ok .getStatus else .error .badLength) ∧
  (∀ s : State, ∃ (ts : Word) (d : Nat) (packet : List Byte),
    let flags : Byte :=
      (if s.armed then 0x01 else 0x00) ||| (if s.lstate = .closed then 0x00 else 0x02) |||
      (match s.lstate with | .closed => 0x00 | .opened => 0x04 | .running => 0x08 | .shuttingDown => 0x0C) |||
      (if s.lastErr then 0x10 else 0x00)
    packet = 0x00 :: flags :: s.ch.toList.flatMap (fun c => u16le (c.setWidth 16)) ++ u32le ts ∧
    packet.length = 38 ∧
    exec .getStatus s = .next { s with responses := s.responses ++ [packet], draws := d })

/-- 30 R87: the bits of the FLAGS byte, LSTATE's four codes written out. -/
def Obligations.FlagsByteLayout : Prop :=
  ∀ s : State,
    s.flags.getLsbD 0 = s.armed ∧
    s.flags.getLsbD 1 = decide (s.lstate ≠ .closed) ∧
    s.flags.extractLsb' 2 2 =
      (match s.lstate with | .closed => 0 | .opened => 1 | .running => 2 | .shuttingDown => 3) ∧
    s.flags.getLsbD 4 = s.lastErr ∧
    s.flags.extractLsb' 5 3 = 0

/-- 44 R212: GET_COUNTERS' packet and its 13-byte answer; the counters are not cleared. -/
def Obligations.GetCountersReportsTheCounters : Prop :=
  (∀ rest : List Byte, decode (0x02 :: rest) = if rest = [] then .ok .getCounters else .error .badLength) ∧
  (∀ s : State,
    exec .getCounters s =
      .next { s with
        responses := s.responses ++ [0x00 :: (u32le s.crcErrCnt ++ u32le s.lenErrCnt ++ u32le s.rxOvfCnt)] }) ∧
  (∀ w : Word, ∃ b0 b1 b2 b3 : Byte, u32le w = [b0, b1, b2, b3] ∧ w = b3 ++ b2 ++ b1 ++ b0)

/-! ### The steps without an encoding -/

/-- 44 R202: OPEN_DONE moves Open to Running and writes nothing else. -/
def Obligations.OpenDoneStartsRunning : Prop :=
  ∀ s : State, s.lstate = .opened → takeTurn .openDone s = .next { s with lstate := .running }

/-- 44 R203, R204, R210: a TX_TICK in Running writes the 26-byte channel frame of the current channels; on an error answer
the failsafe is applied and the session closes. -/
def Obligations.TxTickSendsTheCurrentChannels : Prop :=
  ∀ s : State, s.lstate = .running →
    ∃ frame : List Byte,
      frame = [0xC8, 0x18, 0x16] ++ (pack s.ch).toList ++ [crc8 (0x16 :: (pack s.ch).toList)] ∧ frame.length = 26 ∧
      (s.writeAnswer = .ok →
        takeTurn .txTick s =
          .next { s with trace := s.trace ++ [.tpWrite frame], inp := s.popWrite.inp, draws := s.popWrite.draws }) ∧
      (s.writeAnswer = .err →
        takeTurn .txTick s =
          .next { s with
            ch := (s.ch.set 2 0).set 4 1024
            armed := false
            lastErr := true
            rxbuf := []
            lstate := .closed
            trace := s.trace ++ [.tpWrite frame, .linkError, .tpClose]
            inp := s.popWrite.inp
            draws := s.popWrite.draws })

/-- 44 R205, R206, R210: an RX_READ in Running keeps the bytes RXBUF has room for and counts the others; on an error answer
the failsafe is applied and the session closes. -/
def Obligations.RxReadFillsTheReceiveBuffer : Prop :=
  ∀ s : State, s.lstate = .running →
    (∀ xs : List Byte, s.readAnswer = .bytes xs →
      takeTurn .rxRead s =
        .next { s with
          rxbuf := s.rxbuf ++ xs.take (Config.rxbufCap - s.rxbuf.length)
          rxOvfCnt := s.rxOvfCnt + BitVec.ofNat 32 (xs.length - (Config.rxbufCap - s.rxbuf.length))
          trace := s.trace ++ [.tpRead]
          inp := s.popRead.inp
          draws := s.popRead.draws }) ∧
    (s.readAnswer = .err →
      takeTurn .rxRead s =
        .next { s with
          ch := (s.ch.set 2 0).set 4 1024
          armed := false
          lastErr := true
          rxbuf := []
          lstate := .closed
          trace := s.trace ++ [.tpRead, .linkError, .tpClose]
          inp := s.popRead.inp
          draws := s.popRead.draws })

/-- 44 R207: an RX_PARSE in Running consumes what the parser consumes, and emits the frame or counts the event. -/
def Obligations.RxParseConsumesAndReports : Prop :=
  ∀ (s : State) (n : Nat), s.lstate = .running → 0 < n →
    (∀ f : Frame, parseStream s.rxbuf = (n, .frame f) →
      takeTurn .rxParse s = .next { s with rxbuf := s.rxbuf.drop n, trace := s.trace ++ [.frameOut f] }) ∧
    (parseStream s.rxbuf = (n, .crcMismatch) →
      takeTurn .rxParse s = .next { s with rxbuf := s.rxbuf.drop n, crcErrCnt := s.crcErrCnt + 1 }) ∧
    (parseStream s.rxbuf = (n, .lenInvalid) →
      takeTurn .rxParse s = .next { s with rxbuf := s.rxbuf.drop n, lenErrCnt := s.lenErrCnt + 1 })

/-- 44 R209: FINAL writes one channel frame, reports a failed write, and closes whatever the answer. -/
def Obligations.FinalSendsOneFrameAndCloses : Prop :=
  ∀ s : State, s.lstate = .shuttingDown →
    ∃ frame : List Byte,
      frame = [0xC8, 0x18, 0x16] ++ (pack s.ch).toList ++ [crc8 (0x16 :: (pack s.ch).toList)] ∧
      (s.writeAnswer = .ok →
        takeTurn .finalTx s =
          .next { s with
            rxbuf := []
            lstate := .closed
            trace := s.trace ++ [.tpWrite frame, .tpClose]
            inp := s.popWrite.inp
            draws := s.popWrite.draws }) ∧
      (s.writeAnswer = .err →
        takeTurn .finalTx s =
          .next { s with
            lastErr := true
            rxbuf := []
            lstate := .closed
            trace := s.trace ++ [.tpWrite frame, .linkError, .tpClose]
            inp := s.popWrite.inp
            draws := s.popWrite.draws })

/-- 70 R270 with 10 R41: RESET gives every element its reset value, from every state; only a held transport is closed, and
no frame, no link_error and no response is sent. That the model's own fields stay (inputs, draw counter, the record of
responses and events) is the model's choice (log 8). -/
def Obligations.ResetRestoresEveryElement : Prop :=
  ∀ s : State, ∃ ch' : Vector Chan 16,
    ch'[2] = 0 ∧ (∀ (k : Nat) (hk : k < 16), k ≠ 2 → ch'[k] = 1024) ∧
    takeTurn .reset s =
      .next { s with
        lstate := .closed
        ch := ch'
        armed := false
        lastErr := false
        cfgBaud := 420000
        cfgRate := 50
        crcErrCnt := 0
        lenErrCnt := 0
        rxOvfCnt := 0
        rxbuf := []
        crcr := 0
        trace := if s.lstate = .closed then s.trace else s.trace ++ [.tpClose] }

/-! ### Whole-machine rules -/

/-- 44 R200: the complete lifecycle table; every other step leaves LSTATE unchanged. -/
def Obligations.LifecycleFollowsTheTransitionTable : Prop :=
  ∀ (t : Turn) (s s' : State), takeTurn t s = .next s' →
    s'.lstate =
      match t with
      | .command p =>
        match decode p with
        | .ok (.startLink _ _) => if s.lstate = .closed ∧ s.openAnswer = .ok then .opened else s.lstate
        | .ok .stopLink => if s.lstate = .opened ∨ s.lstate = .running then .shuttingDown else s.lstate
        | _ => s.lstate
      | .openDone => if s.lstate = .opened then .running else s.lstate
      | .txTick => if s.lstate = .running ∧ s.writeAnswer = .err then .closed else s.lstate
      | .rxRead => if s.lstate = .running ∧ s.readAnswer = .err then .closed else s.lstate
      | .rxParse => s.lstate
      | .finalTx => if s.lstate = .shuttingDown then .closed else s.lstate
      | .reset => .closed

/-- 10 R24: CH[4] changes only by ARM, DISARM, STOP_LINK's shutdown_sequence, START_LINK's session defaults, the failsafe of
a failed write or read in Running, and reset. -/
def Obligations.ArmSwitchChangesOnlyBySafetySteps : Prop :=
  ∀ (t : Turn) (s s' : State), takeTurn t s = .next s' → s'.ch[4] ≠ s.ch[4] →
    (∃ p, t = .command p ∧ decode p = .ok .arm) ∨
    (∃ p, t = .command p ∧ decode p = .ok .disarm) ∨
    (∃ p, t = .command p ∧ decode p = .ok .stopLink) ∨
    (∃ p baud rate, t = .command p ∧ decode p = .ok (.startLink baud rate) ∧ s.lstate = .closed ∧ s.openAnswer = .ok) ∨
    (t = .txTick ∧ s.lstate = .running ∧ s.writeAnswer = .err) ∨
    (t = .rxRead ∧ s.lstate = .running ∧ s.readAnswer = .err) ∨
    t = .reset

/-- 10 R27: LAST_ERR is set by every transport failure, cleared by a successful START_LINK and by reset, and keeps its
value in every other step. -/
def Obligations.LastErrIsStickyUntilANewSession : Prop :=
  ∀ (t : Turn) (s s' : State), takeTurn t s = .next s' →
    s'.lastErr =
      match t with
      | .command p =>
        match decode p with
        | .ok (.startLink _ _) => if s.lstate = .closed then decide (s.openAnswer = .err) else s.lastErr
        | _ => s.lastErr
      | .openDone => s.lastErr
      | .txTick => if s.lstate = .running ∧ s.writeAnswer = .err then true else s.lastErr
      | .rxRead => if s.lstate = .running ∧ s.readAnswer = .err then true else s.lastErr
      | .rxParse => s.lastErr
      | .finalTx => if s.lstate = .shuttingDown ∧ s.writeAnswer = .err then true else s.lastErr
      | .reset => false

/-- 10 R28, R29: CFG_BAUD and CFG_RATE change only by a START_LINK in Closed and by reset. -/
def Obligations.ConfigurationChangesOnlyByStartLinkAndReset : Prop :=
  ∀ (t : Turn) (s s' : State), takeTurn t s = .next s' → s'.cfgBaud ≠ s.cfgBaud ∨ s'.cfgRate ≠ s.cfgRate →
    (∃ p baud rate, t = .command p ∧ decode p = .ok (.startLink baud rate) ∧ s.lstate = .closed) ∨ t = .reset

/-- 10 R30 to R32: each counter changes only by its own receiver event in Running, by one modulo 2^32 for a parse, and by
reset. -/
def Obligations.CountersChangeOnlyByReceiverEventsAndReset : Prop :=
  ∀ (t : Turn) (s s' : State), takeTurn t s = .next s' → t ≠ .reset →
    (s'.crcErrCnt ≠ s.crcErrCnt →
      t = .rxParse ∧ s.lstate = .running ∧ (parseStream s.rxbuf).2 = .crcMismatch ∧ s'.crcErrCnt = s.crcErrCnt + 1) ∧
    (s'.lenErrCnt ≠ s.lenErrCnt →
      t = .rxParse ∧ s.lstate = .running ∧ (parseStream s.rxbuf).2 = .lenInvalid ∧ s'.lenErrCnt = s.lenErrCnt + 1) ∧
    (s'.rxOvfCnt ≠ s.rxOvfCnt → t = .rxRead ∧ s.lstate = .running ∧ ∃ xs, s.readAnswer = .bytes xs)

/-- 60 R242 to R244: received bytes and corruption never change the channels, the armed flag, the lifecycle, LAST_ERR or the
configuration, and never send a response. -/
def Obligations.ReceivedBytesNeverTouchControlState : Prop :=
  ∀ (t : Turn) (s s' : State), takeTurn t s = .next s' → t = .rxParse ∨ (t = .rxRead ∧ s.readAnswer ≠ .err) →
    s' = { s with
      rxbuf := s'.rxbuf
      crcErrCnt := s'.crcErrCnt
      lenErrCnt := s'.lenErrCnt
      rxOvfCnt := s'.rxOvfCnt
      trace := s'.trace
      inp := s'.inp
      draws := s'.draws }

/-- 44 R218, 20 R61: the events of a turn; exactly one frame, of the current channels, is written by a TX_TICK in Running
and by a FINAL in ShuttingDown, and none by any other turn. -/
def Obligations.FramesAreSentOnlyByTxTickAndFinal : Prop :=
  ∀ (t : Turn) (s s' : State), takeTurn t s = .next s' →
    ∃ es : List Event, s'.trace = s.trace ++ es ∧
      es.filterMap (fun e => match e with | .tpWrite f => some f | _ => none) =
        if (t = .txTick ∧ s.lstate = .running) ∨ (t = .finalTx ∧ s.lstate = .shuttingDown)
        then [buildFrame 0xC8 0x16 (pack s.ch).toList] else []

/-- 60 R254: a synchronous error is precise. A command answered with a status other than 0 changes nothing else, but that
START_LINK's TransportError writes LAST_ERR, CFG_BAUD and CFG_RATE (its tp_open event and answer apart). -/
def Obligations.SynchronousErrorsArePrecise : Prop :=
  ∀ (p : List Byte) (s s' : State) (sts : Byte), takeTurn (.command p) s = .next s' →
    s'.responses = s.responses ++ [[sts]] → sts ≠ 0x00 →
    s' = { s with responses := s.responses ++ [[sts]] } ∨
    (sts = 0x01 ∧ (∃ baud rate, decode p = .ok (.startLink baud rate)) ∧
      s' = { s with
        lastErr := true
        cfgBaud := s'.cfgBaud
        cfgRate := s'.cfgRate
        trace := s.trace ++ [.tpOpen s'.cfgBaud]
        responses := s.responses ++ [[0x01]]
        inp := s.popOpen.inp
        draws := s.popOpen.draws })

/-- 44 R219: between a STOP_LINK and its FINAL nothing changes the channels, so the final frame is the shutdown_sequence
snapshot, whatever turns come between. -/
def Obligations.FinalFrameIsTheShutdownSnapshot : Prop :=
  ∀ s t u v : State, s.lstate = .opened ∨ s.lstate = .running → exec .stopLink s = .next t →
    StepsWithin (fun x => x.lstate = .shuttingDown) t u → takeTurn .finalTx u = .next v →
    u.ch = (s.ch.set 2 0).set 4 1024 ∧
    ∃ es : List Event,
      v.trace = u.trace ++ .tpWrite (buildFrame 0xC8 0x16 (pack ((s.ch.set 2 0).set 4 1024)).toList) :: es

/-- 20 R64 with 42 R152: frames waiting in RXBUF are emitted one RX_PARSE each, in the order they start in the stream. -/
def Obligations.ReceiverEmitsFramesInOrder : Prop :=
  ∀ (fs : List Frame) (s : State), (∀ f ∈ fs, f.payload.length ≤ 253) → s.lstate = .running →
    s.rxbuf = fs.flatMap (fun f => buildFrame f.addr f.frameType f.payload) →
    runTurns (List.replicate fs.length .rxParse) s =
      .next { s with rxbuf := [], trace := s.trace ++ fs.map .frameOut }

/-! ### Invariants -/

/-- 70 R272: the reset state satisfies the invariants, and no internal step is enabled in it. -/
def Obligations.ResetStateIsSafe : Prop :=
  Inv State.reset ∧
  Turn.enabled .openDone State.reset = false ∧ Turn.enabled .txTick State.reset = false ∧
  Turn.enabled .rxRead State.reset = false ∧ Turn.enabled .rxParse State.reset = false ∧
  Turn.enabled .finalTx State.reset = false

/-- From every safe state, every step, whatever its turn and the answers, leads to a safe state. -/
def Obligations.EveryStepKeepsTheInvariant : Prop :=
  ∀ s s' : State, Inv s → step s = .next s' → Inv s'

/-- 10 R26, R43: in every reachable state ARMED = 1 exactly when CH[4] = 2047, CH[4] is 1024 or 2047, and in Closed
ARMED = 0 and CH[2] = 0. -/
def Obligations.ReachableStatesAreArmConsistentAndFailsafe : Prop :=
  ∀ s : State, Reachable s →
    (s.armed = true ↔ s.ch[4] = 2047) ∧ (s.ch[4] = 1024 ∨ s.ch[4] = 2047) ∧
    (s.lstate = .closed → s.armed = false ∧ s.ch[2] = 0)

/-- 10 R33 with 00 R8: RXBUF_CAP is at least 257; in every reachable state RXBUF holds at most RXBUF_CAP bytes, and it is
empty in Closed. -/
def Obligations.ReachableReceiveBufferIsBounded : Prop :=
  257 ≤ Config.rxbufCap ∧
  ∀ s : State, Reachable s → s.rxbuf.length ≤ Config.rxbufCap ∧ (s.lstate = .closed → s.rxbuf = [])

/-- 70 R273, 44 R214: in every fair execution, ShuttingDown is followed by Closed. -/
def Obligations.FairShutdownReachesClosed : Prop :=
  ∀ (x : Execution) (n : Nat), x.Fair → (x.state n).lstate = .shuttingDown →
    ∃ m, n < m ∧ (x.state m).lstate = .closed ∧ ∀ k, n ≤ k → k < m → (x.state k).lstate = .shuttingDown

/-- 44 R202, R214: in every fair execution, Open is left, to Running, ShuttingDown or Closed. -/
def Obligations.FairOpenWindowEnds : Prop :=
  ∀ (x : Execution) (n : Nat), x.Fair → (x.state n).lstate = .opened → ∃ m, n < m ∧ (x.state m).lstate ≠ .opened

/-- 44 R214: in every fair execution whose RXBUF can be parsed in Running, an RX_PARSE is taken, or the session is left. -/
def Obligations.FairReceiverParses : Prop :=
  ∀ (x : Execution) (n : Nat), x.Fair → Turn.enabled .rxParse (x.state n) = true →
    ∃ m, n ≤ m ∧ (x.turn m = .rxParse ∨ (x.state m).lstate ≠ .running)

/-! ### Pseudo-commands -/

/-- 30 R95: the pseudo-commands' expansions; SET_AUX never reaches CH[4]. -/
def Obligations.PseudoCommandsExpand : Prop :=
  (∀ v : Half, setRoll v = .setChannel 0 v ∧ setPitch v = .setChannel 1 v ∧ setThrottle v = .setChannel 2 v ∧
    setYaw v = .setChannel 3 v) ∧
  (∀ (n : Nat) (v : Half), 2 ≤ n → n ≤ 12 → ∃ x : Byte, x.toNat = n + 3 ∧ setAux n v = some (.setChannel x v)) ∧
  (∀ v : Half, setAux 1 v = none) ∧
  startLinkDefaults = .startLink 0 0 ∧
  bindFrame = .buildFrame 0xEE 0x21 [0x01, 0x00, 0x00]
end

