-- ==== Sys2Proof/Laws/Bytes.lean ====
section
/-! SUPPORT. The host port's byte order: each reader undoes its writer, and each as a number (spec 20_memory.md R53). -/

namespace Sys2Proof

/-- Two bytes appended, as a number. -/
theorem toNat_append_byte {n : Nat} (x : BitVec n) (b : Byte) : (x ++ b).toNat = 256 * x.toNat + b.toNat := by
  have hb := b.isLt
  rw [BitVec.toNat_append, ← Nat.shiftLeft_add_eq_or_of_lt hb, Nat.shiftLeft_eq]
  omega

/-- `u16` as a number (00 R10). -/
theorem u16_toNat (b0 b1 : Byte) : (u16 b0 b1).toNat = b0.toNat + 256 * b1.toNat := by
  have h : (u16 b0 b1).toNat = (b1 ++ b0).toNat := rfl
  rw [h, toNat_append_byte]
  omega

/-- `u32` as a number (00 R10). -/
theorem u32_toNat (b0 b1 b2 b3 : Byte) :
    (u32 b0 b1 b2 b3).toNat = b0.toNat + 256 * b1.toNat + 65536 * b2.toNat + 16777216 * b3.toNat := by
  have h : (u32 b0 b1 b2 b3).toNat = (b3 ++ b2 ++ b1 ++ b0).toNat := rfl
  rw [h, toNat_append_byte, toNat_append_byte, toNat_append_byte]
  omega

/-- The bytes of a `u16` are the bytes it was read from. -/
@[simp] theorem u16le_u16 (b0 b1 : Byte) : u16le (u16 b0 b1) = [b0, b1] := by
  have h0 := b0.isLt
  have h1 := b1.isLt
  simp only [u16le, List.cons.injEq, and_true]
  constructor <;> apply BitVec.eq_of_toNat_eq <;>
    simp only [BitVec.extractLsb'_toNat, u16_toNat, Nat.shiftRight_eq_div_pow] <;> omega

/-- Reading the bytes of a 16-bit field gives the field. -/
@[simp] theorem u16_u16le (h : Half) : u16 (h.extractLsb' 0 8) (h.extractLsb' 8 8) = h := by
  have hh := h.isLt
  apply BitVec.eq_of_toNat_eq
  rw [u16_toNat]
  simp only [BitVec.extractLsb'_toNat, Nat.shiftRight_eq_div_pow]
  omega

/-- The bytes of a `u32` are the bytes it was read from. -/
@[simp] theorem u32le_u32 (b0 b1 b2 b3 : Byte) : u32le (u32 b0 b1 b2 b3) = [b0, b1, b2, b3] := by
  have h0 := b0.isLt
  have h1 := b1.isLt
  have h2 := b2.isLt
  have h3 := b3.isLt
  simp only [u32le, List.cons.injEq, and_true]
  refine ⟨?_, ?_, ?_, ?_⟩ <;> apply BitVec.eq_of_toNat_eq <;>
    simp only [BitVec.extractLsb'_toNat, u32_toNat, Nat.shiftRight_eq_div_pow] <;> omega

/-- Reading the bytes of a 32-bit field gives the field. -/
@[simp] theorem u32_u32le (w : Word) :
    u32 (w.extractLsb' 0 8) (w.extractLsb' 8 8) (w.extractLsb' 16 8) (w.extractLsb' 24 8) = w := by
  have hw := w.isLt
  apply BitVec.eq_of_toNat_eq
  rw [u32_toNat]
  simp only [BitVec.extractLsb'_toNat, Nat.shiftRight_eq_div_pow]
  omega

/-- A 16-bit field has two bytes. -/
@[simp] theorem u16le_length (h : Half) : (u16le h).length = 2 := rfl

/-- A 32-bit field has four bytes. -/
@[simp] theorem u32le_length (w : Word) : (u32le w).length = 4 := rfl

/-- A list of 16-bit fields has two bytes a field. -/
theorem flatMap_u16le_length (vs : List Half) : (vs.flatMap u16le).length = 2 * vs.length := by
  induction vs with
  | nil => rfl
  | cons v vs ih =>
    rw [List.flatMap_cons, List.length_append, ih, u16le_length, List.length_cons]
    omega

/-- Reading the bytes of a list of fields gives the list. -/
theorem halves_flatMap_u16le (vs : List Half) : halves (vs.flatMap u16le) = vs := by
  induction vs with
  | nil => rfl
  | cons v vs ih =>
    have hv : halves ((v :: vs).flatMap u16le) =
        u16 (v.extractLsb' 0 8) (v.extractLsb' 8 8) :: halves (vs.flatMap u16le) := by
      simp [u16le, halves]
    rw [hv, ih, u16_u16le]

/-- The fields of an even number of bytes: how many, and that their bytes are the bytes read. -/
theorem halves_of_length : ∀ (n : Nat) (p : List Byte), p.length = 2 * n →
    (halves p).length = n ∧ (halves p).flatMap u16le = p
  | 0, p, h => by
    obtain rfl : p = [] := by simpa using h
    exact ⟨rfl, rfl⟩
  | n + 1, [], h => by simp at h
  | n + 1, [b], h => by simp at h; omega
  | n + 1, b0 :: b1 :: rest, h => by
    obtain ⟨hl, hf⟩ := halves_of_length n rest (by simp at h; omega)
    exact ⟨by simp [halves, hl], by simp [halves, List.flatMap_cons, hf]⟩

/-- The byte of an opcode is read as that opcode (30 R83). -/
@[simp] theorem Opcode.ofByte_byte (op : Opcode) : Opcode.ofByte op.byte = some op := by cases op <;> rfl

/-- A byte read as an opcode is that opcode's byte (30 R83, R88). -/
theorem Opcode.byte_of_ofByte {b : Byte} {op : Opcode} (h : Opcode.ofByte b = some op) : b = op.byte := by
  revert b
  cases op <;> decide +kernel

end Sys2Proof
end

