-- ==== Sys2Proof/Laws/Codec.lean ====
section
/-! SUPPORT. What parse_stream can answer, and what it answers where a whole frame stands (spec 42_frame_codec.md R143 to
R149). -/

namespace Sys2Proof.Machine

/-- A number below 256 survives its byte. -/
theorem toNat_ofNat_byte (n : Nat) (h : n < 256) : (BitVec.ofNat 8 n).toNat = n := by
  rw [BitVec.toNat_ofNat]
  omega

/-- The answer where as many bytes stand as the length byte asks for (42 R146 to R148). -/
theorem parseStream_whole (addr len ty crc : Byte) (payload rest : List Byte) (h : len.toNat = payload.length + 2) :
    parseStream (addr :: len :: ty :: (payload ++ crc :: rest)) =
      if crc = crc8 (ty :: payload) then
        (len.toNat + 2, .frame { addr := addr, frameType := ty, payload := payload })
      else (1, .crcMismatch) := by
  unfold parseStream
  rw [if_neg (by simp)]
  simp only [byteAt, List.getD_cons_zero, List.getD_cons_succ]
  rw [if_neg (by omega), if_neg (by simp; omega)]
  have hpayload : slice (addr :: len :: ty :: (payload ++ crc :: rest)) 3 (3 + len.toNat - 2) = payload := by
    simp [slice, h, show 3 + (payload.length + 2) - 2 - 3 = payload.length by omega]
  have hcrc : (addr :: len :: ty :: (payload ++ crc :: rest)).getD (3 + len.toNat - 2) 0 = crc := by
    rw [h, show 3 + (payload.length + 2) - 2 = payload.length + 3 by omega]
    simp
  rw [hpayload, hcrc]

/-- The four answers of parse_stream (42 R149). -/
theorem parseStream_cases (buf : List Byte) :
    (parseStream buf = (0, .needMore) ∧ buf.length < 257) ∨
    (parseStream buf = (1, .lenInvalid) ∧ 2 ≤ buf.length) ∨
    (parseStream buf = (1, .crcMismatch) ∧ 2 ≤ buf.length) ∨
    (∃ f, parseStream buf = ((byteAt buf 1).toNat + 2, .frame f) ∧ (byteAt buf 1).toNat + 2 ≤ buf.length ∧
      2 ≤ (byteAt buf 1).toNat ∧ f.payload.length + 2 = (byteAt buf 1).toNat) := by
  have hb := (byteAt buf 1).isLt
  unfold parseStream
  split
  · exact .inl ⟨rfl, by omega⟩
  dsimp only
  split
  · exact .inr (.inl ⟨rfl, by omega⟩)
  split
  · exact .inl ⟨rfl, by omega⟩
  split
  · refine .inr (.inr (.inr ⟨_, rfl, by omega, by omega, ?_⟩))
    simp only [slice, List.length_take, List.length_drop]
    omega
  · exact .inr (.inr (.inl ⟨rfl, by omega⟩))

end Sys2Proof.Machine
end

