-- ==== Sys2Proof/Laws/Crc.lean ====
section
/-! SUPPORT. The checksum's bit loop as a linear map of bytes, and what the unit's operations do to CRCR
(spec 40_crc8_dvb_s2.md R100 to R105). -/

namespace Sys2Proof.Machine

/-- One division step is linear. -/
theorem crcShift_xor (a b : Byte) : crcShift (a ^^^ b) = crcShift a ^^^ crcShift b := by
  unfold crcShift
  rw [BitVec.getLsbD_xor, BitVec.shiftLeft_xor_distrib]
  cases a.getLsbD 7 <;> cases b.getLsbD 7 <;> simp
  · ac_rfl
  · ac_rfl
  · rw [show a <<< 1 ^^^ Config.crcPoly ^^^ (b <<< 1 ^^^ Config.crcPoly) =
      a <<< 1 ^^^ b <<< 1 ^^^ (Config.crcPoly ^^^ Config.crcPoly) by ac_rfl]
    simp

/-- `n` division steps are linear. -/
theorem crcShifts_xor (n : Nat) (a b : Byte) : crcShifts n (a ^^^ b) = crcShifts n a ^^^ crcShifts n b := by
  induction n generalizing a b with
  | zero => rfl
  | succ n ih => simp only [crcShifts, crcShift_xor, ih]

/-- Division steps keep a zero remainder. -/
@[simp] theorem crcShifts_zero (n : Nat) : crcShifts n 0#8 = 0#8 := by
  induction n with
  | zero => rfl
  | succ n ih => simpa [crcShifts, crcShift] using ih

/-- A byte equal to the remainder leaves remainder zero. -/
@[simp] theorem crcStep8_self (c : Byte) : crcStep8 c c = 0#8 := by simp [crcStep8]

/-- `crc8` of a sequence and one more byte (40 R101). -/
theorem crc8_append (s : List Byte) (b : Byte) : crc8 (s ++ [b]) = crcStep8 (crc8 s) b := by simp [crc8]

/-- Updates on a list of bytes fold them into CRCR and write nothing else (40 R105). -/
theorem State.crcUpdate_foldl (bytes : List Byte) (s : State) :
    bytes.foldl State.crcUpdate s = { s with crcr := bytes.foldl crcStep8 s.crcr } := by
  induction bytes generalizing s with
  | nil => rfl
  | cons b bytes ih => rw [List.foldl_cons, ih]; rfl

end Sys2Proof.Machine
end

