-- ==== Sys2Proof/Laws/State.lean ====
section
/-! SUPPORT. What each primitive update of the state does to each field, so that no proof unfolds an update. The compound
operations have one equation each in Laws/Ops.lean. -/

namespace Sys2Proof.Machine

/-! ### `respond` -/

@[simp] theorem State.respond_lstate (s : State) (r : List Byte) : (s.respond r).lstate = s.lstate := rfl
@[simp] theorem State.respond_ch (s : State) (r : List Byte) : (s.respond r).ch = s.ch := rfl
@[simp] theorem State.respond_armed (s : State) (r : List Byte) : (s.respond r).armed = s.armed := rfl
@[simp] theorem State.respond_lastErr (s : State) (r : List Byte) : (s.respond r).lastErr = s.lastErr := rfl
@[simp] theorem State.respond_cfgBaud (s : State) (r : List Byte) : (s.respond r).cfgBaud = s.cfgBaud := rfl
@[simp] theorem State.respond_cfgRate (s : State) (r : List Byte) : (s.respond r).cfgRate = s.cfgRate := rfl
@[simp] theorem State.respond_crcErrCnt (s : State) (r : List Byte) : (s.respond r).crcErrCnt = s.crcErrCnt := rfl
@[simp] theorem State.respond_lenErrCnt (s : State) (r : List Byte) : (s.respond r).lenErrCnt = s.lenErrCnt := rfl
@[simp] theorem State.respond_rxOvfCnt (s : State) (r : List Byte) : (s.respond r).rxOvfCnt = s.rxOvfCnt := rfl
@[simp] theorem State.respond_rxbuf (s : State) (r : List Byte) : (s.respond r).rxbuf = s.rxbuf := rfl
@[simp] theorem State.respond_crcr (s : State) (r : List Byte) : (s.respond r).crcr = s.crcr := rfl
@[simp] theorem State.respond_inp (s : State) (r : List Byte) : (s.respond r).inp = s.inp := rfl
@[simp] theorem State.respond_draws (s : State) (r : List Byte) : (s.respond r).draws = s.draws := rfl
@[simp] theorem State.respond_responses (s : State) (r : List Byte) : (s.respond r).responses = s.responses ++ [r] := rfl
@[simp] theorem State.respond_trace (s : State) (r : List Byte) : (s.respond r).trace = s.trace := rfl

/-! ### `respondStatus` -/

@[simp] theorem State.respondStatus_lstate (s : State) (st : Status) : (s.respondStatus st).lstate = s.lstate := rfl
@[simp] theorem State.respondStatus_ch (s : State) (st : Status) : (s.respondStatus st).ch = s.ch := rfl
@[simp] theorem State.respondStatus_armed (s : State) (st : Status) : (s.respondStatus st).armed = s.armed := rfl
@[simp] theorem State.respondStatus_lastErr (s : State) (st : Status) : (s.respondStatus st).lastErr = s.lastErr := rfl
@[simp] theorem State.respondStatus_cfgBaud (s : State) (st : Status) : (s.respondStatus st).cfgBaud = s.cfgBaud := rfl
@[simp] theorem State.respondStatus_cfgRate (s : State) (st : Status) : (s.respondStatus st).cfgRate = s.cfgRate := rfl
@[simp] theorem State.respondStatus_crcErrCnt (s : State) (st : Status) : (s.respondStatus st).crcErrCnt = s.crcErrCnt := rfl
@[simp] theorem State.respondStatus_lenErrCnt (s : State) (st : Status) : (s.respondStatus st).lenErrCnt = s.lenErrCnt := rfl
@[simp] theorem State.respondStatus_rxOvfCnt (s : State) (st : Status) : (s.respondStatus st).rxOvfCnt = s.rxOvfCnt := rfl
@[simp] theorem State.respondStatus_rxbuf (s : State) (st : Status) : (s.respondStatus st).rxbuf = s.rxbuf := rfl
@[simp] theorem State.respondStatus_crcr (s : State) (st : Status) : (s.respondStatus st).crcr = s.crcr := rfl
@[simp] theorem State.respondStatus_inp (s : State) (st : Status) : (s.respondStatus st).inp = s.inp := rfl
@[simp] theorem State.respondStatus_draws (s : State) (st : Status) : (s.respondStatus st).draws = s.draws := rfl
@[simp] theorem State.respondStatus_responses (s : State) (st : Status) : (s.respondStatus st).responses = s.responses ++ [[st.code]] := rfl
@[simp] theorem State.respondStatus_trace (s : State) (st : Status) : (s.respondStatus st).trace = s.trace := rfl

/-! ### `emit` -/

@[simp] theorem State.emit_lstate (s : State) (e : Event) : (s.emit e).lstate = s.lstate := rfl
@[simp] theorem State.emit_ch (s : State) (e : Event) : (s.emit e).ch = s.ch := rfl
@[simp] theorem State.emit_armed (s : State) (e : Event) : (s.emit e).armed = s.armed := rfl
@[simp] theorem State.emit_lastErr (s : State) (e : Event) : (s.emit e).lastErr = s.lastErr := rfl
@[simp] theorem State.emit_cfgBaud (s : State) (e : Event) : (s.emit e).cfgBaud = s.cfgBaud := rfl
@[simp] theorem State.emit_cfgRate (s : State) (e : Event) : (s.emit e).cfgRate = s.cfgRate := rfl
@[simp] theorem State.emit_crcErrCnt (s : State) (e : Event) : (s.emit e).crcErrCnt = s.crcErrCnt := rfl
@[simp] theorem State.emit_lenErrCnt (s : State) (e : Event) : (s.emit e).lenErrCnt = s.lenErrCnt := rfl
@[simp] theorem State.emit_rxOvfCnt (s : State) (e : Event) : (s.emit e).rxOvfCnt = s.rxOvfCnt := rfl
@[simp] theorem State.emit_rxbuf (s : State) (e : Event) : (s.emit e).rxbuf = s.rxbuf := rfl
@[simp] theorem State.emit_crcr (s : State) (e : Event) : (s.emit e).crcr = s.crcr := rfl
@[simp] theorem State.emit_inp (s : State) (e : Event) : (s.emit e).inp = s.inp := rfl
@[simp] theorem State.emit_draws (s : State) (e : Event) : (s.emit e).draws = s.draws := rfl
@[simp] theorem State.emit_responses (s : State) (e : Event) : (s.emit e).responses = s.responses := rfl
@[simp] theorem State.emit_trace (s : State) (e : Event) : (s.emit e).trace = s.trace ++ [e] := rfl

/-! ### `setCh` -/

@[simp] theorem State.setCh_lstate (s : State) (i : Nat) (v : Chan) : (s.setCh i v).lstate = s.lstate := rfl
@[simp] theorem State.setCh_ch (s : State) (i : Nat) (v : Chan) : (s.setCh i v).ch = s.ch.setIfInBounds i v := rfl
@[simp] theorem State.setCh_armed (s : State) (i : Nat) (v : Chan) : (s.setCh i v).armed = s.armed := rfl
@[simp] theorem State.setCh_lastErr (s : State) (i : Nat) (v : Chan) : (s.setCh i v).lastErr = s.lastErr := rfl
@[simp] theorem State.setCh_cfgBaud (s : State) (i : Nat) (v : Chan) : (s.setCh i v).cfgBaud = s.cfgBaud := rfl
@[simp] theorem State.setCh_cfgRate (s : State) (i : Nat) (v : Chan) : (s.setCh i v).cfgRate = s.cfgRate := rfl
@[simp] theorem State.setCh_crcErrCnt (s : State) (i : Nat) (v : Chan) : (s.setCh i v).crcErrCnt = s.crcErrCnt := rfl
@[simp] theorem State.setCh_lenErrCnt (s : State) (i : Nat) (v : Chan) : (s.setCh i v).lenErrCnt = s.lenErrCnt := rfl
@[simp] theorem State.setCh_rxOvfCnt (s : State) (i : Nat) (v : Chan) : (s.setCh i v).rxOvfCnt = s.rxOvfCnt := rfl
@[simp] theorem State.setCh_rxbuf (s : State) (i : Nat) (v : Chan) : (s.setCh i v).rxbuf = s.rxbuf := rfl
@[simp] theorem State.setCh_crcr (s : State) (i : Nat) (v : Chan) : (s.setCh i v).crcr = s.crcr := rfl
@[simp] theorem State.setCh_inp (s : State) (i : Nat) (v : Chan) : (s.setCh i v).inp = s.inp := rfl
@[simp] theorem State.setCh_draws (s : State) (i : Nat) (v : Chan) : (s.setCh i v).draws = s.draws := rfl
@[simp] theorem State.setCh_responses (s : State) (i : Nat) (v : Chan) : (s.setCh i v).responses = s.responses := rfl
@[simp] theorem State.setCh_trace (s : State) (i : Nat) (v : Chan) : (s.setCh i v).trace = s.trace := rfl

/-! ### `popTurn` -/

@[simp] theorem State.popTurn_lstate (s : State) : (s.popTurn).lstate = s.lstate := by unfold State.popTurn; split <;> rfl
@[simp] theorem State.popTurn_ch (s : State) : (s.popTurn).ch = s.ch := by unfold State.popTurn; split <;> rfl
@[simp] theorem State.popTurn_armed (s : State) : (s.popTurn).armed = s.armed := by unfold State.popTurn; split <;> rfl
@[simp] theorem State.popTurn_lastErr (s : State) : (s.popTurn).lastErr = s.lastErr := by unfold State.popTurn; split <;> rfl
@[simp] theorem State.popTurn_cfgBaud (s : State) : (s.popTurn).cfgBaud = s.cfgBaud := by unfold State.popTurn; split <;> rfl
@[simp] theorem State.popTurn_cfgRate (s : State) : (s.popTurn).cfgRate = s.cfgRate := by unfold State.popTurn; split <;> rfl
@[simp] theorem State.popTurn_crcErrCnt (s : State) : (s.popTurn).crcErrCnt = s.crcErrCnt := by unfold State.popTurn; split <;> rfl
@[simp] theorem State.popTurn_lenErrCnt (s : State) : (s.popTurn).lenErrCnt = s.lenErrCnt := by unfold State.popTurn; split <;> rfl
@[simp] theorem State.popTurn_rxOvfCnt (s : State) : (s.popTurn).rxOvfCnt = s.rxOvfCnt := by unfold State.popTurn; split <;> rfl
@[simp] theorem State.popTurn_rxbuf (s : State) : (s.popTurn).rxbuf = s.rxbuf := by unfold State.popTurn; split <;> rfl
@[simp] theorem State.popTurn_crcr (s : State) : (s.popTurn).crcr = s.crcr := by unfold State.popTurn; split <;> rfl
@[simp] theorem State.popTurn_responses (s : State) : (s.popTurn).responses = s.responses := by unfold State.popTurn; split <;> rfl
@[simp] theorem State.popTurn_trace (s : State) : (s.popTurn).trace = s.trace := by unfold State.popTurn; split <;> rfl

/-! ### `popOpen` -/

@[simp] theorem State.popOpen_lstate (s : State) : (s.popOpen).lstate = s.lstate := by unfold State.popOpen; split <;> rfl
@[simp] theorem State.popOpen_ch (s : State) : (s.popOpen).ch = s.ch := by unfold State.popOpen; split <;> rfl
@[simp] theorem State.popOpen_armed (s : State) : (s.popOpen).armed = s.armed := by unfold State.popOpen; split <;> rfl
@[simp] theorem State.popOpen_lastErr (s : State) : (s.popOpen).lastErr = s.lastErr := by unfold State.popOpen; split <;> rfl
@[simp] theorem State.popOpen_cfgBaud (s : State) : (s.popOpen).cfgBaud = s.cfgBaud := by unfold State.popOpen; split <;> rfl
@[simp] theorem State.popOpen_cfgRate (s : State) : (s.popOpen).cfgRate = s.cfgRate := by unfold State.popOpen; split <;> rfl
@[simp] theorem State.popOpen_crcErrCnt (s : State) : (s.popOpen).crcErrCnt = s.crcErrCnt := by unfold State.popOpen; split <;> rfl
@[simp] theorem State.popOpen_lenErrCnt (s : State) : (s.popOpen).lenErrCnt = s.lenErrCnt := by unfold State.popOpen; split <;> rfl
@[simp] theorem State.popOpen_rxOvfCnt (s : State) : (s.popOpen).rxOvfCnt = s.rxOvfCnt := by unfold State.popOpen; split <;> rfl
@[simp] theorem State.popOpen_rxbuf (s : State) : (s.popOpen).rxbuf = s.rxbuf := by unfold State.popOpen; split <;> rfl
@[simp] theorem State.popOpen_crcr (s : State) : (s.popOpen).crcr = s.crcr := by unfold State.popOpen; split <;> rfl
@[simp] theorem State.popOpen_responses (s : State) : (s.popOpen).responses = s.responses := by unfold State.popOpen; split <;> rfl
@[simp] theorem State.popOpen_trace (s : State) : (s.popOpen).trace = s.trace := by unfold State.popOpen; split <;> rfl

/-! ### `popWrite` -/

@[simp] theorem State.popWrite_lstate (s : State) : (s.popWrite).lstate = s.lstate := by unfold State.popWrite; split <;> rfl
@[simp] theorem State.popWrite_ch (s : State) : (s.popWrite).ch = s.ch := by unfold State.popWrite; split <;> rfl
@[simp] theorem State.popWrite_armed (s : State) : (s.popWrite).armed = s.armed := by unfold State.popWrite; split <;> rfl
@[simp] theorem State.popWrite_lastErr (s : State) : (s.popWrite).lastErr = s.lastErr := by unfold State.popWrite; split <;> rfl
@[simp] theorem State.popWrite_cfgBaud (s : State) : (s.popWrite).cfgBaud = s.cfgBaud := by unfold State.popWrite; split <;> rfl
@[simp] theorem State.popWrite_cfgRate (s : State) : (s.popWrite).cfgRate = s.cfgRate := by unfold State.popWrite; split <;> rfl
@[simp] theorem State.popWrite_crcErrCnt (s : State) : (s.popWrite).crcErrCnt = s.crcErrCnt := by unfold State.popWrite; split <;> rfl
@[simp] theorem State.popWrite_lenErrCnt (s : State) : (s.popWrite).lenErrCnt = s.lenErrCnt := by unfold State.popWrite; split <;> rfl
@[simp] theorem State.popWrite_rxOvfCnt (s : State) : (s.popWrite).rxOvfCnt = s.rxOvfCnt := by unfold State.popWrite; split <;> rfl
@[simp] theorem State.popWrite_rxbuf (s : State) : (s.popWrite).rxbuf = s.rxbuf := by unfold State.popWrite; split <;> rfl
@[simp] theorem State.popWrite_crcr (s : State) : (s.popWrite).crcr = s.crcr := by unfold State.popWrite; split <;> rfl
@[simp] theorem State.popWrite_responses (s : State) : (s.popWrite).responses = s.responses := by unfold State.popWrite; split <;> rfl
@[simp] theorem State.popWrite_trace (s : State) : (s.popWrite).trace = s.trace := by unfold State.popWrite; split <;> rfl

/-! ### `popRead` -/

@[simp] theorem State.popRead_lstate (s : State) : (s.popRead).lstate = s.lstate := by unfold State.popRead; split <;> rfl
@[simp] theorem State.popRead_ch (s : State) : (s.popRead).ch = s.ch := by unfold State.popRead; split <;> rfl
@[simp] theorem State.popRead_armed (s : State) : (s.popRead).armed = s.armed := by unfold State.popRead; split <;> rfl
@[simp] theorem State.popRead_lastErr (s : State) : (s.popRead).lastErr = s.lastErr := by unfold State.popRead; split <;> rfl
@[simp] theorem State.popRead_cfgBaud (s : State) : (s.popRead).cfgBaud = s.cfgBaud := by unfold State.popRead; split <;> rfl
@[simp] theorem State.popRead_cfgRate (s : State) : (s.popRead).cfgRate = s.cfgRate := by unfold State.popRead; split <;> rfl
@[simp] theorem State.popRead_crcErrCnt (s : State) : (s.popRead).crcErrCnt = s.crcErrCnt := by unfold State.popRead; split <;> rfl
@[simp] theorem State.popRead_lenErrCnt (s : State) : (s.popRead).lenErrCnt = s.lenErrCnt := by unfold State.popRead; split <;> rfl
@[simp] theorem State.popRead_rxOvfCnt (s : State) : (s.popRead).rxOvfCnt = s.rxOvfCnt := by unfold State.popRead; split <;> rfl
@[simp] theorem State.popRead_rxbuf (s : State) : (s.popRead).rxbuf = s.rxbuf := by unfold State.popRead; split <;> rfl
@[simp] theorem State.popRead_crcr (s : State) : (s.popRead).crcr = s.crcr := by unfold State.popRead; split <;> rfl
@[simp] theorem State.popRead_responses (s : State) : (s.popRead).responses = s.responses := by unfold State.popRead; split <;> rfl
@[simp] theorem State.popRead_trace (s : State) : (s.popRead).trace = s.trace := by unfold State.popRead; split <;> rfl

/-! ### `rxAppend` -/

@[simp] theorem State.rxAppend_lstate (s : State) (x : Byte) : (s.rxAppend x).lstate = s.lstate := by unfold State.rxAppend; split <;> rfl
@[simp] theorem State.rxAppend_ch (s : State) (x : Byte) : (s.rxAppend x).ch = s.ch := by unfold State.rxAppend; split <;> rfl
@[simp] theorem State.rxAppend_armed (s : State) (x : Byte) : (s.rxAppend x).armed = s.armed := by unfold State.rxAppend; split <;> rfl
@[simp] theorem State.rxAppend_lastErr (s : State) (x : Byte) : (s.rxAppend x).lastErr = s.lastErr := by unfold State.rxAppend; split <;> rfl
@[simp] theorem State.rxAppend_cfgBaud (s : State) (x : Byte) : (s.rxAppend x).cfgBaud = s.cfgBaud := by unfold State.rxAppend; split <;> rfl
@[simp] theorem State.rxAppend_cfgRate (s : State) (x : Byte) : (s.rxAppend x).cfgRate = s.cfgRate := by unfold State.rxAppend; split <;> rfl
@[simp] theorem State.rxAppend_crcErrCnt (s : State) (x : Byte) : (s.rxAppend x).crcErrCnt = s.crcErrCnt := by unfold State.rxAppend; split <;> rfl
@[simp] theorem State.rxAppend_lenErrCnt (s : State) (x : Byte) : (s.rxAppend x).lenErrCnt = s.lenErrCnt := by unfold State.rxAppend; split <;> rfl
@[simp] theorem State.rxAppend_crcr (s : State) (x : Byte) : (s.rxAppend x).crcr = s.crcr := by unfold State.rxAppend; split <;> rfl
@[simp] theorem State.rxAppend_inp (s : State) (x : Byte) : (s.rxAppend x).inp = s.inp := by unfold State.rxAppend; split <;> rfl
@[simp] theorem State.rxAppend_draws (s : State) (x : Byte) : (s.rxAppend x).draws = s.draws := by unfold State.rxAppend; split <;> rfl
@[simp] theorem State.rxAppend_responses (s : State) (x : Byte) : (s.rxAppend x).responses = s.responses := by unfold State.rxAppend; split <;> rfl
@[simp] theorem State.rxAppend_trace (s : State) (x : Byte) : (s.rxAppend x).trace = s.trace := by unfold State.rxAppend; split <;> rfl

/-! ### `withInputs` -/

@[simp] theorem State.withInputs_lstate (s : State) (i : Inputs) : (s.withInputs i).lstate = s.lstate := rfl
@[simp] theorem State.withInputs_ch (s : State) (i : Inputs) : (s.withInputs i).ch = s.ch := rfl
@[simp] theorem State.withInputs_armed (s : State) (i : Inputs) : (s.withInputs i).armed = s.armed := rfl
@[simp] theorem State.withInputs_lastErr (s : State) (i : Inputs) : (s.withInputs i).lastErr = s.lastErr := rfl
@[simp] theorem State.withInputs_cfgBaud (s : State) (i : Inputs) : (s.withInputs i).cfgBaud = s.cfgBaud := rfl
@[simp] theorem State.withInputs_cfgRate (s : State) (i : Inputs) : (s.withInputs i).cfgRate = s.cfgRate := rfl
@[simp] theorem State.withInputs_crcErrCnt (s : State) (i : Inputs) : (s.withInputs i).crcErrCnt = s.crcErrCnt := rfl
@[simp] theorem State.withInputs_lenErrCnt (s : State) (i : Inputs) : (s.withInputs i).lenErrCnt = s.lenErrCnt := rfl
@[simp] theorem State.withInputs_rxOvfCnt (s : State) (i : Inputs) : (s.withInputs i).rxOvfCnt = s.rxOvfCnt := rfl
@[simp] theorem State.withInputs_rxbuf (s : State) (i : Inputs) : (s.withInputs i).rxbuf = s.rxbuf := rfl
@[simp] theorem State.withInputs_crcr (s : State) (i : Inputs) : (s.withInputs i).crcr = s.crcr := rfl
@[simp] theorem State.withInputs_inp (s : State) (i : Inputs) : (s.withInputs i).inp = i := rfl
@[simp] theorem State.withInputs_draws (s : State) (i : Inputs) : (s.withInputs i).draws = s.draws := rfl
@[simp] theorem State.withInputs_responses (s : State) (i : Inputs) : (s.withInputs i).responses = s.responses := rfl
@[simp] theorem State.withInputs_trace (s : State) (i : Inputs) : (s.withInputs i).trace = s.trace := rfl

/-! ### `configure` -/

@[simp] theorem State.configure_lstate (s : State) (b : Word) (r : Half) : (s.configure b r).lstate = s.lstate := rfl
@[simp] theorem State.configure_ch (s : State) (b : Word) (r : Half) : (s.configure b r).ch = s.ch := rfl
@[simp] theorem State.configure_armed (s : State) (b : Word) (r : Half) : (s.configure b r).armed = s.armed := rfl
@[simp] theorem State.configure_lastErr (s : State) (b : Word) (r : Half) : (s.configure b r).lastErr = s.lastErr := rfl
@[simp] theorem State.configure_cfgBaud (s : State) (b : Word) (r : Half) : (s.configure b r).cfgBaud = if b = 0 then Config.defaultBaud else b := rfl
@[simp] theorem State.configure_cfgRate (s : State) (b : Word) (r : Half) : (s.configure b r).cfgRate = if r = 0 then Config.defaultRate else r := rfl
@[simp] theorem State.configure_crcErrCnt (s : State) (b : Word) (r : Half) : (s.configure b r).crcErrCnt = s.crcErrCnt := rfl
@[simp] theorem State.configure_lenErrCnt (s : State) (b : Word) (r : Half) : (s.configure b r).lenErrCnt = s.lenErrCnt := rfl
@[simp] theorem State.configure_rxOvfCnt (s : State) (b : Word) (r : Half) : (s.configure b r).rxOvfCnt = s.rxOvfCnt := rfl
@[simp] theorem State.configure_rxbuf (s : State) (b : Word) (r : Half) : (s.configure b r).rxbuf = s.rxbuf := rfl
@[simp] theorem State.configure_crcr (s : State) (b : Word) (r : Half) : (s.configure b r).crcr = s.crcr := rfl
@[simp] theorem State.configure_inp (s : State) (b : Word) (r : Half) : (s.configure b r).inp = s.inp := rfl
@[simp] theorem State.configure_draws (s : State) (b : Word) (r : Half) : (s.configure b r).draws = s.draws := rfl
@[simp] theorem State.configure_responses (s : State) (b : Word) (r : Half) : (s.configure b r).responses = s.responses := rfl
@[simp] theorem State.configure_trace (s : State) (b : Word) (r : Half) : (s.configure b r).trace = s.trace := rfl

/-! ### `replaceChannels` -/

@[simp] theorem State.replaceChannels_lstate (s : State) (vals : List Half) : (s.replaceChannels vals).lstate = s.lstate := rfl
@[simp] theorem State.replaceChannels_ch (s : State) (vals : List Half) : (s.replaceChannels vals).ch = s.ch.mapIdx fun k c => if k = 4 then c else clamp (lane vals k) := rfl
@[simp] theorem State.replaceChannels_armed (s : State) (vals : List Half) : (s.replaceChannels vals).armed = s.armed := rfl
@[simp] theorem State.replaceChannels_lastErr (s : State) (vals : List Half) : (s.replaceChannels vals).lastErr = s.lastErr := rfl
@[simp] theorem State.replaceChannels_cfgBaud (s : State) (vals : List Half) : (s.replaceChannels vals).cfgBaud = s.cfgBaud := rfl
@[simp] theorem State.replaceChannels_cfgRate (s : State) (vals : List Half) : (s.replaceChannels vals).cfgRate = s.cfgRate := rfl
@[simp] theorem State.replaceChannels_crcErrCnt (s : State) (vals : List Half) : (s.replaceChannels vals).crcErrCnt = s.crcErrCnt := rfl
@[simp] theorem State.replaceChannels_lenErrCnt (s : State) (vals : List Half) : (s.replaceChannels vals).lenErrCnt = s.lenErrCnt := rfl
@[simp] theorem State.replaceChannels_rxOvfCnt (s : State) (vals : List Half) : (s.replaceChannels vals).rxOvfCnt = s.rxOvfCnt := rfl
@[simp] theorem State.replaceChannels_rxbuf (s : State) (vals : List Half) : (s.replaceChannels vals).rxbuf = s.rxbuf := rfl
@[simp] theorem State.replaceChannels_crcr (s : State) (vals : List Half) : (s.replaceChannels vals).crcr = s.crcr := rfl
@[simp] theorem State.replaceChannels_inp (s : State) (vals : List Half) : (s.replaceChannels vals).inp = s.inp := rfl
@[simp] theorem State.replaceChannels_draws (s : State) (vals : List Half) : (s.replaceChannels vals).draws = s.draws := rfl
@[simp] theorem State.replaceChannels_responses (s : State) (vals : List Half) : (s.replaceChannels vals).responses = s.responses := rfl
@[simp] theorem State.replaceChannels_trace (s : State) (vals : List Half) : (s.replaceChannels vals).trace = s.trace := rfl

/-! ### `noteParse` -/

@[simp] theorem State.noteParse_lstate (s : State) (ev : ParseEvent) : (s.noteParse ev).lstate = s.lstate := by cases ev <;> rfl
@[simp] theorem State.noteParse_ch (s : State) (ev : ParseEvent) : (s.noteParse ev).ch = s.ch := by cases ev <;> rfl
@[simp] theorem State.noteParse_armed (s : State) (ev : ParseEvent) : (s.noteParse ev).armed = s.armed := by cases ev <;> rfl
@[simp] theorem State.noteParse_lastErr (s : State) (ev : ParseEvent) : (s.noteParse ev).lastErr = s.lastErr := by cases ev <;> rfl
@[simp] theorem State.noteParse_cfgBaud (s : State) (ev : ParseEvent) : (s.noteParse ev).cfgBaud = s.cfgBaud := by cases ev <;> rfl
@[simp] theorem State.noteParse_cfgRate (s : State) (ev : ParseEvent) : (s.noteParse ev).cfgRate = s.cfgRate := by cases ev <;> rfl
@[simp] theorem State.noteParse_rxOvfCnt (s : State) (ev : ParseEvent) : (s.noteParse ev).rxOvfCnt = s.rxOvfCnt := by cases ev <;> rfl
@[simp] theorem State.noteParse_rxbuf (s : State) (ev : ParseEvent) : (s.noteParse ev).rxbuf = s.rxbuf := by cases ev <;> rfl
@[simp] theorem State.noteParse_crcr (s : State) (ev : ParseEvent) : (s.noteParse ev).crcr = s.crcr := by cases ev <;> rfl
@[simp] theorem State.noteParse_inp (s : State) (ev : ParseEvent) : (s.noteParse ev).inp = s.inp := by cases ev <;> rfl
@[simp] theorem State.noteParse_draws (s : State) (ev : ParseEvent) : (s.noteParse ev).draws = s.draws := by cases ev <;> rfl
@[simp] theorem State.noteParse_responses (s : State) (ev : ParseEvent) : (s.noteParse ev).responses = s.responses := by cases ev <;> rfl

end Sys2Proof.Machine
end

