-- ==== Sys2Proof/Laws/Ops.lean ====
section
/-! SUPPORT. One equation for each compound operation: everything it changes, in one record update. -/

namespace Sys2Proof.Machine

/-- `arm()` (43 R175). -/
theorem State.arm_eq (s : State) : s.arm = { s with ch := s.ch.set 4 2047, armed := true } := by
  simp [State.arm, State.setCh, Config.chMax, Vector.setIfInBounds, Vector.set, Array.setIfInBounds]

/-- `disarm()` (43 R176). -/
theorem State.disarm_eq (s : State) : s.disarm = { s with ch := s.ch.set 4 1024, armed := false } := by
  simp [State.disarm, State.setCh, Config.chCenter, Vector.setIfInBounds, Vector.set, Array.setIfInBounds]

/-- `reset_controls()` (43 R177). -/
theorem State.resetControls_eq (s : State) :
    s.resetControls = { s with ch := ((s.ch.set 0 1024).set 1 1024).set 3 1024 } := by
  simp [State.resetControls, State.setCh, Config.chCenter, Vector.setIfInBounds, Vector.set, Array.setIfInBounds]

/-- `shutdown_sequence()` (43 R178). -/
theorem State.shutdownSequence_eq (s : State) :
    s.shutdownSequence = { s with ch := (s.ch.set 2 0).set 4 1024, armed := false } := by
  simp [State.shutdownSequence, State.disarm_eq, State.setCh, Vector.setIfInBounds, Vector.set, Array.setIfInBounds]

/-- The failsafe writes what `shutdown_sequence` writes (43 R178, R180). -/
theorem State.failsafe_eq (s : State) :
    s.failsafe = { s with ch := (s.ch.set 2 0).set 4 1024, armed := false } := by
  simp [State.failsafe, State.setCh, Config.chCenter, Vector.setIfInBounds, Vector.set, Array.setIfInBounds]

/-- `enter_closed_on_error()` (44 R210). -/
theorem State.enterClosedOnError_eq (s : State) :
    s.enterClosedOnError =
      { s with
        ch := (s.ch.set 2 0).set 4 1024
        armed := false
        lastErr := true
        rxbuf := []
        lstate := .closed
        trace := s.trace ++ [.linkError, .tpClose] } := by
  simp [State.enterClosedOnError, State.failsafe_eq, State.emit]

/-- The session defaults, channel by channel (43 R179). -/
theorem defaultChannels_get (k : Nat) (hk : k < 16) : defaultChannels[k] = if k = 2 then 0 else 1024 := by
  simp only [defaultChannels, Vector.getElem_set, Vector.getElem_replicate, Config.chCenter]
  simp only [eq_comm (a := 2)]

/-- The start of a session (44 R201, 10 R42). -/
theorem State.startSession_eq (s : State) :
    s.startSession =
      { s with ch := defaultChannels, armed := false, rxbuf := [], lastErr := false, lstate := .opened } := rfl

/-- `rx_append` on a list: what RXBUF has room for is kept, the rest is counted (44 R206). -/
theorem State.rxAppendAll_eq (xs : List Byte) (s : State) :
    s.rxAppendAll xs =
      { s with
        rxbuf := s.rxbuf ++ xs.take (Config.rxbufCap - s.rxbuf.length)
        rxOvfCnt := s.rxOvfCnt + BitVec.ofNat 32 (xs.length - (Config.rxbufCap - s.rxbuf.length)) } := by
  induction xs generalizing s with
  | nil => simp [State.rxAppendAll]
  | cons x xs ih =>
    have hstep : s.rxAppendAll (x :: xs) = (s.rxAppend x).rxAppendAll xs := List.foldl_cons ..
    rw [hstep, ih]
    unfold State.rxAppend
    split
    · next h =>
      obtain ⟨n, hn⟩ : ∃ n, Config.rxbufCap - s.rxbuf.length = n + 1 := ⟨Config.rxbufCap - s.rxbuf.length - 1, by omega⟩
      have hn' : Config.rxbufCap - (s.rxbuf.length + 1) = n := by omega
      simp [hn, hn']
    · next h =>
      have hz : Config.rxbufCap - s.rxbuf.length = 0 := by omega
      have hcount : s.rxOvfCnt + 1#32 + BitVec.ofNat 32 xs.length = s.rxOvfCnt + BitVec.ofNat 32 (xs.length + 1) := by
        rw [BitVec.add_assoc, Nat.add_comm xs.length 1, BitVec.ofNat_add]
      simpa [hz] using hcount

/-- `open_result`: the session starts, or the open failed (44 R201). -/
theorem openResult_eq (a : Ack) (s : State) :
    openResult a s =
      match a with
      | .err => { s with lastErr := true }.respondStatus .transportError
      | .ok =>
        { s with ch := defaultChannels, armed := false, rxbuf := [], lastErr := false, lstate := .opened }.respondStatus
          .ok := by
  cases a <;> rfl

/-- RESET (70 R270). -/
theorem State.resetStep_eq (s : State) :
    s.resetStep =
      { s with
        lstate := .closed
        ch := defaultChannels
        armed := false
        lastErr := false
        cfgBaud := 420000
        cfgRate := 50
        crcErrCnt := 0
        lenErrCnt := 0
        rxOvfCnt := 0
        rxbuf := []
        crcr := 0
        trace := if s.lstate = .closed then s.trace else s.trace ++ [.tpClose] } := by
  unfold State.resetStep
  by_cases h : s.lstate = .closed <;> simp [h, State.sessionDefaults, State.emit, Config.defaultBaud, Config.defaultRate]

/-- `clamp` as a number (00 R10). -/
theorem clamp_toNat (v : Half) : ((clamp v).toNat : Int) = max 0 (min 2047 v.toInt) := by
  unfold clamp
  split
  · rw [max_eq_left (by omega)]; rfl
  split
  · rw [min_eq_left (by omega)]; rfl
  rw [BitVec.toNat_ofInt]
  simp
  omega

/-- The bits of `flagsByte` (30 R87). -/
theorem flagsByte_bits (armed connected lastErr : Bool) (ls : LState) :
    (flagsByte armed connected ls lastErr).getLsbD 0 = armed ∧
    (flagsByte armed connected ls lastErr).getLsbD 1 = connected ∧
    (flagsByte armed connected ls lastErr).extractLsb' 2 2 = ls.code ∧
    (flagsByte armed connected ls lastErr).getLsbD 4 = lastErr ∧
    (flagsByte armed connected ls lastErr).extractLsb' 5 3 = 0#3 := by
  cases armed <;> cases connected <;> cases lastErr <;> cases ls <;> decide

end Sys2Proof.Machine
end

