-- ==== Sys2Proof/Laws/Packer.lean ====
section
/-! SUPPORT. The bits of the packer's 176-bit streams (spec 41_channel_packer.md R120 to R122). -/

namespace Sys2Proof.Machine

/-- The bits of shifted fields ORed together. -/
theorem foldl_or_getLsbD {n m w : Nat} (l : List (Fin m)) (f : Fin m → BitVec w) (sh : Fin m → Nat) (acc : BitVec n)
    (k : Nat) :
    (l.foldl (fun (acc : BitVec n) i => acc ||| ((f i).setWidth n <<< sh i)) acc).getLsbD k =
      (acc.getLsbD k || l.any fun i => decide (k < n) && !decide (k < sh i) && (f i).getLsbD (k - sh i)) := by
  induction l generalizing acc with
  | nil => simp
  | cons i l ih =>
    rw [List.foldl_cons, ih, List.any_cons]
    simp only [BitVec.getLsbD_or, BitVec.getLsbD_shiftLeft, BitVec.getLsbD_setWidth, Bool.or_assoc]
    by_cases h : k < n <;> simp [h]
    by_cases h2 : k < sh i <;> simp [h2]
    have : k - sh i < n := by omega
    simp [this]

/-- Bit `b` of channel `i` is stream bit `11i + b` (41 R121). -/
theorem packStream_getLsbD (v : Vector Chan 16) (i b : Nat) (hi : i < 16) (hb : b < 11) :
    (packStream v).getLsbD (11 * i + b) = v[i].getLsbD b := by
  unfold packStream
  rw [foldl_or_getLsbD (List.finRange 16) (fun i => v[i]) (fun i => 11 * i.val) 0 (11 * i + b)]
  simp only [BitVec.ofNat_eq_ofNat, BitVec.getLsbD_zero, Bool.false_or]
  rw [Bool.eq_iff_iff, List.any_eq_true]
  constructor
  · rintro ⟨j, _, hj⟩
    simp at hj
    obtain ⟨⟨h1, h2⟩, h3⟩ := hj
    have hlt : 11 * i + b - 11 * j.val < 11 := by
      by_contra hc
      rw [BitVec.getLsbD_of_ge _ _ (by omega)] at h3
      cases h3
    have : j.val = i := by omega
    simp only [this] at h3
    simpa [show 11 * i + b - 11 * i = b by omega] using h3
  · intro h
    refine ⟨⟨i, hi⟩, List.mem_finRange _, ?_⟩
    simp [show 11 * i + b < 176 by omega, h, show 11 * i + b - 11 * i = b by omega]

/-- Bit `b` of byte `j` is stream bit `8j + b` (41 R122). -/
theorem byteStream_getLsbD (p : Vector Byte 22) (j b : Nat) (hj : j < 22) (hb : b < 8) :
    (byteStream p).getLsbD (8 * j + b) = p[j].getLsbD b := by
  unfold byteStream
  rw [foldl_or_getLsbD (List.finRange 22) (fun i => p[i]) (fun i => 8 * i.val) 0 (8 * j + b)]
  simp only [BitVec.ofNat_eq_ofNat, BitVec.getLsbD_zero, Bool.false_or]
  rw [Bool.eq_iff_iff, List.any_eq_true]
  constructor
  · rintro ⟨i, _, hi⟩
    simp at hi
    obtain ⟨⟨h1, h2⟩, h3⟩ := hi
    have hlt : 8 * j + b - 8 * i.val < 8 := by
      by_contra hc
      rw [BitVec.getLsbD_of_ge _ _ (by omega)] at h3
      cases h3
    have : i.val = j := by omega
    simp only [this] at h3
    simpa [show 8 * j + b - 8 * j = b by omega] using h3
  · intro h
    refine ⟨⟨j, hj⟩, List.mem_finRange _, ?_⟩
    simp [show 8 * j + b < 176 by omega, h, show 8 * j + b - 8 * j = b by omega]

/-- A byte of the payload as a field of the stream (41 R120). -/
theorem pack_getElem (v : Vector Chan 16) (j : Nat) (hj : j < 22) :
    (pack v)[j] = (packStream v).extractLsb' (8 * j) 8 := by
  simp [pack]

/-- A channel as a field of the stream (41 R122). -/
theorem unpack_getElem (p : Vector Byte 22) (i : Nat) (hi : i < 16) :
    (unpack p)[i] = (byteStream p).extractLsb' (11 * i) 11 := by
  simp [unpack]

end Sys2Proof.Machine
end

