-- ==== Sys2Proof/Laws/PerInstr.lean ====
section
/-! SUPPORT. A law of every constructor of Instr: the packet of a well-formed command has exactly the length its own
opcode and count field ask for (spec 30_encoding.md R83, R84). -/

namespace Sys2Proof.Laws.EncodedLength

/-- The packet of a well-formed command starts with an opcode of 30 R83, whose accepted length it has. -/
def Statement (i : Instr) : Prop :=
  i.WellFormed → ∃ op : Opcode, Opcode.ofByte (byteAt (encode i) 0) = some op ∧
    (encode i).length = op.packetLength (encode i)

theorem getStatus : Statement .getStatus := fun _ => ⟨.getStatus, rfl, rfl⟩
theorem getCounters : Statement .getCounters := fun _ => ⟨.getCounters, rfl, rfl⟩
theorem setChannel (idx : Byte) (val : Half) : Statement (.setChannel idx val) := fun _ => ⟨.setChannel, rfl, rfl⟩

theorem setChannels (vals : List Half) : Statement (.setChannels vals) := by
  intro h
  have hl : vals.length ≤ 255 := by simpa [Instr.WellFormed, Instr.wellFormed] using h
  refine ⟨.setChannels, rfl, ?_⟩
  have := flatMap_u16le_length vals
  simp only [encode, Opcode.packetLength, byteAt, List.length_append, this]
  simp
  omega

theorem arm : Statement .arm := fun _ => ⟨.arm, rfl, rfl⟩
theorem disarm : Statement .disarm := fun _ => ⟨.disarm, rfl, rfl⟩
theorem resetControls : Statement .resetControls := fun _ => ⟨.resetControls, rfl, rfl⟩
theorem startLink (baud : Word) (rate : Half) : Statement (.startLink baud rate) := fun _ => ⟨.startLink, rfl, rfl⟩
theorem stopLink : Statement .stopLink := fun _ => ⟨.stopLink, rfl, rfl⟩

theorem crc8 (data : List Byte) : Statement (.crc8 data) := by
  intro h
  have hl : data.length ≤ 255 := by simpa [Instr.WellFormed, Instr.wellFormed] using h
  refine ⟨.crc8, rfl, ?_⟩
  simp [encode, Opcode.packetLength, byteAt]
  omega

theorem pack (vals : List Half) : Statement (.pack vals) := by
  intro h
  have hl : vals.length ≤ 255 := by simpa [Instr.WellFormed, Instr.wellFormed] using h
  refine ⟨.pack, rfl, ?_⟩
  have := flatMap_u16le_length vals
  simp only [encode, Opcode.packetLength, byteAt, List.length_append, this]
  simp
  omega

theorem unpack (payload : Vector Byte 22) : Statement (.unpack payload) := by
  intro _
  refine ⟨.unpack, rfl, ?_⟩
  simp [encode, Opcode.packetLength]

theorem buildFrame (addr frameType : Byte) (payload : List Byte) : Statement (.buildFrame addr frameType payload) := by
  intro h
  have hl : payload.length ≤ 255 := by simpa [Instr.WellFormed, Instr.wellFormed] using h
  refine ⟨.buildFrame, rfl, ?_⟩
  simp [encode, Opcode.packetLength, byteAt]
  omega

theorem parse (buf : List Byte) : Statement (.parse buf) := by
  intro h
  have hl : buf.length ≤ 65535 := by simpa [Instr.WellFormed, Instr.wellFormed] using h
  refine ⟨.parse, rfl, ?_⟩
  simp [encode, Opcode.packetLength, byteAt, u16le]
  omega

end Sys2Proof.Laws.EncodedLength
end

