-- ==== Sys2Proof/Laws/Turns.lean ====
section
/-! SUPPORT. What each command and each turn answers, as one equation each: the state after it, the frame included.
Proofs about a step cite these and unfold no meaning. -/

namespace Sys2Proof.Machine

/-! ### Commands -/

/-- A command that needs Open or Running (60 R246). -/
theorem whenControllable_eq (s s' : State) :
    whenControllable s s' =
      .next (if s.lstate = .opened ∨ s.lstate = .running then s'.respondStatus .ok else s.respondStatus .notConnected) := by
  unfold whenControllable State.acceptsControl raise
  cases s.lstate <;> simp

/-- SET_CHANNEL (43 R173). -/
theorem exec_setChannel (idx : Byte) (val : Half) (s : State) :
    exec (.setChannel idx val) s =
      .next (if 15 < idx.toNat then s.respondStatus .badOperand
        else if idx.toNat = 4 then s.respondStatus .reservedChannel
        else if s.lstate = .opened ∨ s.lstate = .running then (s.setCh idx.toNat (clamp val)).respondStatus .ok
        else s.respondStatus .notConnected) := by
  simp only [exec, execSetChannel, whenControllable_eq, raise]
  split <;> [rfl; (split <;> rfl)]

/-- SET_CHANNELS (43 R174). -/
theorem exec_setChannels (vals : List Half) (s : State) :
    exec (.setChannels vals) s =
      .next (if vals.length ≠ 16 then s.respondStatus .invalidChannelCount
        else if s.lstate = .opened ∨ s.lstate = .running then (s.replaceChannels vals).respondStatus .ok
        else s.respondStatus .notConnected) := by
  simp only [exec, execSetChannels, whenControllable_eq, raise]
  split <;> rfl

/-- ARM (43 R175). -/
theorem exec_arm (s : State) :
    exec .arm s =
      .next (if s.lstate = .opened ∨ s.lstate = .running then s.arm.respondStatus .ok
        else s.respondStatus .notConnected) := whenControllable_eq s s.arm

/-- DISARM (43 R176). -/
theorem exec_disarm (s : State) :
    exec .disarm s =
      .next (if s.lstate = .opened ∨ s.lstate = .running then s.disarm.respondStatus .ok
        else s.respondStatus .notConnected) := whenControllable_eq s s.disarm

/-- RESET_CONTROLS (43 R177). -/
theorem exec_resetControls (s : State) :
    exec .resetControls s =
      .next (if s.lstate = .opened ∨ s.lstate = .running then s.resetControls.respondStatus .ok
        else s.respondStatus .notConnected) := whenControllable_eq s s.resetControls

/-- START_LINK (44 R201). -/
theorem exec_startLink (baud : Word) (rate : Half) (s : State) :
    exec (.startLink baud rate) s =
      .next (if s.lstate = .closed then
          openResult s.openAnswer (((s.configure baud rate).emit (.tpOpen (s.configure baud rate).cfgBaud)).popOpen)
        else s.respondStatus .badState) := by
  simp only [exec, execStartLink, raise]
  split <;> rfl

/-- STOP_LINK (44 R208). -/
theorem exec_stopLink (s : State) :
    exec .stopLink s =
      .next (if s.lstate = .closed then s.respondStatus .notConnected
        else if s.lstate = .shuttingDown then s.respondStatus .badState
        else { s.shutdownSequence with lstate := .shuttingDown }.respondStatus .ok) := by
  simp only [exec, execStopLink, raise]
  cases s.lstate <;> rfl

/-- PACK (41 R125). -/
theorem exec_pack (vals : List Half) (s : State) :
    exec (.pack vals) s =
      .next (s.respond (if vals.length ≠ 16 then [Status.invalidChannelCount.code]
        else Status.ok.code :: (pack (Vector.ofFn fun i : Fin 16 => mask11 (lane vals i.val))).toList)) := by
  simp only [exec, execPack, raise, respondResult]
  split <;> rfl

/-- BUILD_FRAME (42 R150). -/
theorem exec_buildFrame (a t : Byte) (payload : List Byte) (s : State) :
    exec (.buildFrame a t payload) s =
      .next (s.respond (if 253 < payload.length then [Status.badOperand.code]
        else Status.ok.code :: buildFrame a t payload)) := by
  simp only [exec, execBuildFrame, raise, respondResult]
  split <;> rfl

/-! ### Turns -/

/-- A host packet (30 R80, R84). -/
theorem takeTurn_command (p : List Byte) (s : State) :
    takeTurn (.command p) s =
      match decode p with
      | .error e => .next (s.respondStatus (errorStatus e))
      | .ok i => exec i s := rfl

/-- OPEN_DONE (44 R202). -/
theorem takeTurn_openDone (s : State) :
    takeTurn .openDone s = .next (if s.lstate = .opened then { s with lstate := .running } else s) := by
  cases h : s.lstate <;> simp [takeTurn, Turn.enabled, enabledStep, State.openDoneStep, h]

/-- TX_TICK (44 R203). -/
theorem takeTurn_txTick (s : State) :
    takeTurn .txTick s =
      .next (if s.lstate = .running then
        txResult s.writeAnswer (s.emit (.tpWrite (channelFrame s.ch))).popWrite else s) := by
  cases h : s.lstate <;> simp [takeTurn, Turn.enabled, enabledStep, State.txTickStep, State.snapshot, h]

/-- RX_READ (44 R205). -/
theorem takeTurn_rxRead (s : State) :
    takeTurn .rxRead s =
      .next (if s.lstate = .running then rxResult s.readAnswer (s.emit .tpRead).popRead else s) := by
  cases h : s.lstate <;> simp [takeTurn, Turn.enabled, enabledStep, State.rxReadStep, h]

/-- RX_PARSE (44 R207). -/
theorem takeTurn_rxParse (s : State) :
    takeTurn .rxParse s =
      .next (if s.lstate = .running ∧ 0 < (parseStream s.rxbuf).1 then
        { s with rxbuf := s.rxbuf.drop (parseStream s.rxbuf).1 }.noteParse (parseStream s.rxbuf).2 else s) := by
  by_cases h : s.lstate = .running ∧ 0 < (parseStream s.rxbuf).1
  · simp [takeTurn, Turn.enabled, enabledStep, State.rxParseStep, h]
  · have : ((decide (s.lstate = .running)) && decide (0 < (parseStream s.rxbuf).1)) = false := by
      simpa using h
    simp only [takeTurn, Turn.enabled, this, h, if_false, Bool.false_eq_true]

/-- FINAL (44 R209). -/
theorem takeTurn_finalTx (s : State) :
    takeTurn .finalTx s =
      .next (if s.lstate = .shuttingDown then
        { (finalResult s.writeAnswer (s.emit (.tpWrite (channelFrame s.ch))).popWrite).emit .tpClose with
          rxbuf := [], lstate := .closed } else s) := by
  cases h : s.lstate <;> simp [takeTurn, Turn.enabled, enabledStep, State.finalTxStep, State.snapshot, h]

/-- RESET (70 R270). -/
theorem takeTurn_reset (s : State) : takeTurn .reset s = .next s.resetStep := rfl

/-! ### What a command packet can do -/

/-- What an accepted control command writes (43 R173 to R177, 44 R208). -/
def ControlEffect (i : Instr) (s s' : State) : Prop :=
  (i = .arm ∧ s' = s.arm.respondStatus .ok) ∨
  (i = .disarm ∧ s' = s.disarm.respondStatus .ok) ∨
  (i = .resetControls ∧ s' = s.resetControls.respondStatus .ok) ∨
  (∃ idx v, i = .setChannel idx v ∧ idx.toNat ≤ 15 ∧ idx.toNat ≠ 4 ∧
    s' = (s.setCh idx.toNat (clamp v)).respondStatus .ok) ∨
  (∃ vs, i = .setChannels vs ∧ vs.length = 16 ∧ s' = (s.replaceChannels vs).respondStatus .ok) ∨
  (i = .stopLink ∧ s' = { s.shutdownSequence with lstate := .shuttingDown }.respondStatus .ok)

/-- The commands that read or compute and write no state (20 R57). -/
def Instr.ReadsOnly : Instr → Prop
  | .getStatus => True
  | .getCounters => True
  | .setChannel _ _ => False
  | .setChannels _ => False
  | .arm => False
  | .disarm => False
  | .resetControls => False
  | .startLink _ _ => False
  | .stopLink => False
  | .crc8 _ => True
  | .pack _ => True
  | .unpack _ => True
  | .buildFrame _ _ _ => True
  | .parse _ => True

/-- A command packet answers an error and writes nothing else; or it is a read or pure command that only answers; or a
control command in Open or Running; or a START_LINK in Closed. -/
theorem command_cases {p : List Byte} {s s' : State} (h : takeTurn (.command p) s = .next s') :
    (∃ st : Status, st ≠ .ok ∧ s' = s.respondStatus st) ∨
    (∃ i r d, decode p = .ok i ∧ Instr.ReadsOnly i ∧
      s' = { s with responses := s.responses ++ [Status.ok.code :: r], draws := d }) ∨
    (∃ i, decode p = .ok i ∧ (s.lstate = .opened ∨ s.lstate = .running) ∧ ControlEffect i s s') ∨
    (∃ baud rate, decode p = .ok (.startLink baud rate) ∧ s.lstate = .closed ∧
      s' = openResult s.openAnswer (((s.configure baud rate).emit (.tpOpen (s.configure baud rate).cfgBaud)).popOpen)) := by
  rw [takeTurn_command] at h
  cases hd : decode p with
  | error e =>
    simp only [hd] at h
    cases h
    exact .inl ⟨errorStatus e, by cases e <;> decide, rfl⟩
  | ok i =>
    simp only [hd] at h
    cases i
    case getStatus => cases h; exact .inr (.inl ⟨_, _, s.draws + 1, rfl, trivial, rfl⟩)
    case getCounters => cases h; exact .inr (.inl ⟨_, _, s.draws, rfl, trivial, rfl⟩)
    case crc8 => cases h; exact .inr (.inl ⟨_, _, s.draws, rfl, trivial, rfl⟩)
    case unpack => cases h; exact .inr (.inl ⟨_, _, s.draws, rfl, trivial, rfl⟩)
    case parse => cases h; exact .inr (.inl ⟨_, _, s.draws, rfl, trivial, rfl⟩)
    case pack =>
      rw [exec_pack] at h
      cases h
      split
      · exact .inl ⟨.invalidChannelCount, by decide, rfl⟩
      · exact .inr (.inl ⟨_, _, s.draws, rfl, trivial, rfl⟩)
    case buildFrame =>
      rw [exec_buildFrame] at h
      cases h
      split
      · exact .inl ⟨.badOperand, by decide, rfl⟩
      · exact .inr (.inl ⟨_, _, s.draws, rfl, trivial, rfl⟩)
    case setChannel idx v =>
      rw [exec_setChannel] at h
      cases h
      split
      · exact .inl ⟨_, by decide, rfl⟩
      split
      · exact .inl ⟨_, by decide, rfl⟩
      split
      · exact .inr (.inr (.inl ⟨_, rfl, ‹_›, .inr (.inr (.inr (.inl ⟨idx, v, rfl, by omega, by omega, rfl⟩)))⟩))
      · exact .inl ⟨_, by decide, rfl⟩
    case setChannels vs =>
      rw [exec_setChannels] at h
      cases h
      split
      · exact .inl ⟨_, by decide, rfl⟩
      split
      · exact .inr (.inr (.inl ⟨_, rfl, ‹_›, .inr (.inr (.inr (.inr (.inl ⟨vs, rfl, by omega, rfl⟩))))⟩))
      · exact .inl ⟨_, by decide, rfl⟩
    case arm =>
      rw [exec_arm] at h
      cases h
      split
      · exact .inr (.inr (.inl ⟨_, rfl, ‹_›, .inl ⟨rfl, rfl⟩⟩))
      · exact .inl ⟨_, by decide, rfl⟩
    case disarm =>
      rw [exec_disarm] at h
      cases h
      split
      · exact .inr (.inr (.inl ⟨_, rfl, ‹_›, .inr (.inl ⟨rfl, rfl⟩)⟩))
      · exact .inl ⟨_, by decide, rfl⟩
    case resetControls =>
      rw [exec_resetControls] at h
      cases h
      split
      · exact .inr (.inr (.inl ⟨_, rfl, ‹_›, .inr (.inr (.inl ⟨rfl, rfl⟩))⟩))
      · exact .inl ⟨_, by decide, rfl⟩
    case stopLink =>
      rw [exec_stopLink] at h
      cases h
      split
      · exact .inl ⟨_, by decide, rfl⟩
      split
      · exact .inl ⟨_, by decide, rfl⟩
      · refine .inr (.inr (.inl ⟨_, rfl, ?_, .inr (.inr (.inr (.inr (.inr ⟨rfl, rfl⟩))))⟩))
        cases hl : s.lstate <;> simp_all
    case startLink baud rate =>
      rw [exec_startLink] at h
      cases h
      split
      · exact .inr (.inr (.inr ⟨baud, rate, rfl, ‹_›, rfl⟩))
      · exact .inl ⟨_, by decide, rfl⟩

end Sys2Proof.Machine
end

