-- ==== Sys2Proof/Laws/Runs.lean ====
section
/-! SUPPORT. What a step of an execution is, and that the observation of a run stands once the run has ended
(spec 44_link_fsm.md R217). -/

namespace Sys2Proof

open Sys2Proof.Machine

/-- The observation leaves out only the inputs. -/
@[simp] theorem Machine.State.observation_withInputs (s : State) (i : Inputs) :
    (s.withInputs i).observation = s.observation := rfl

/-- Taking a turn from the inputs is not observed. -/
@[simp] theorem Machine.State.observation_popTurn (s : State) : s.popTurn.observation = s.observation := by
  unfold State.popTurn
  split <;> rfl

/-- In Closed every turn but a host packet and RESET passes (44 R213). -/
theorem takeTurn_closed {t : Turn} {s : State} (hs : s.lstate = .closed) (hp : ∀ p, t ≠ .command p) (hr : t ≠ .reset) :
    takeTurn t s = .next s := by
  cases t
  case command p => exact absurd rfl (hp p)
  case reset => exact absurd rfl hr
  all_goals simp [takeTurn, Turn.enabled, hs]

/-- Step `n` of an execution is its turn, made on the state it finds with that turn taken. -/
theorem Execution.takeTurn_turn (x : Execution) (n : Nat) :
    takeTurn (x.turn n) ((x.state n).withInputs (x.inputs n)).popTurn = .next (x.state (n + 1)) := x.steps n

/-- A step of an ended run that is no reset leaves the observation and the end (44 R217). -/
theorem RunEnded.succ {x : Execution} {n : Nat} (h : RunEnded x n) (hr : x.turn n ≠ .reset) :
    RunEnded x (n + 1) ∧ (x.state (n + 1)).observation = (x.state n).observation := by
  have hstep := x.takeTurn_turn n
  rw [takeTurn_closed (by simpa using h.closed) (fun p => h.host_done n p le_rfl) hr] at hstep
  injection hstep with hstep
  have hclosed : (x.state (n + 1)).lstate = .closed := by simpa [← hstep] using h.closed
  refine ⟨⟨fun m p hm => h.host_done m p (by omega), hclosed, ?_, ?_⟩, by simp [← hstep]⟩ <;>
    simp [Turn.enabled, hclosed]

/-- The observation of an ended run stands for as long as reset is not asserted (44 R217). -/
theorem RunEnded.observation_stable {x : Execution} {n : Nat} (h : RunEnded x n) (k : Nat)
    (hr : ∀ m, n ≤ m → m < n + k → x.turn m ≠ .reset) :
    RunEnded x (n + k) ∧ (x.state (n + k)).observation = (x.state n).observation := by
  induction k with
  | zero => exact ⟨h, rfl⟩
  | succ k ih =>
    obtain ⟨hend, hobs⟩ := ih fun m h1 h2 => hr m h1 (by omega)
    obtain ⟨hend', hobs'⟩ := hend.succ (hr (n + k) (by omega) (by omega))
    exact ⟨hend', hobs'.trans hobs⟩

end Sys2Proof
end

