-- ==== Sys2Proof/Tests/Slice0.lean ====
section
/-! SUPPORT. The model's own tests. Expected values are the spec's: 95_test_vectors.md by its vector ids (V-…, F_ARM, F_DEF),
40_crc8_dvb_s2.md R103, or words written out from 30_encoding.md R83. The last part shows, for each statement with hypotheses,
states and operands that meet them, at the ends of their ranges. -/

namespace Sys2Proof.Tests

open Sys2Proof.Machine

-- One test at a time: each evaluation waits for the declarations before it, and each waiting test holds a thread.
set_option Elab.async false

/-! ### Helpers -/

/-- The next state, where there is one. -/
def after : Host.Outcome State Fault Refusal → Option State
  | .next s => some s
  | .fault _ => none
  | .refused _ => none

/-- The reset state moved to a lifecycle state. -/
def inState (ls : LState) : State := { State.reset with lstate := ls }

/-- That state armed. -/
def armedIn (ls : LState) : State := { inState ls with ch := defaultChannels.set 4 2047, armed := true }

/-- The environment's answers listed. -/
def State.answering (s : State) (o w : List Ack) (r : List ReadAns) : State :=
  { s with inp := { turns := [], openAns := o, writeAns := w, readAns := r } }

/-- The responses after one command packet. -/
def answers (p : List Byte) (s : State) : Option (List (List Byte)) :=
  (after (takeTurn (.command p) s)).map (·.responses)

/-- Lists of bytes and channels by their numbers. -/
def bytes (xs : List Nat) : List Byte := xs.map (BitVec.ofNat 8)

/-- The channels of a state by their numbers. -/
def channels (s : State) : List Nat := s.ch.toList.map (·.toNat)

/-- The §8 payload: defaults with CH[4] = 2047 (V-SRC-06). -/
def armPayload : List Byte :=
  bytes [0x00, 0x04, 0x20, 0x00, 0x00, 0xF8, 0x7F, 0x00, 0x02, 0x10, 0x80, 0x00, 0x04, 0x20, 0x00, 0x01, 0x08, 0x40, 0x00,
    0x02, 0x10, 0x80]

/-- F_ARM. -/
def frameArm : List Byte := bytes [0xC8, 0x18, 0x16] ++ armPayload ++ bytes [0x65]

/-- F_DEF. -/
def frameDef : List Byte :=
  bytes [0xC8, 0x18, 0x16, 0x00, 0x04, 0x20, 0x00, 0x00, 0x08, 0x40, 0x00, 0x02, 0x10, 0x80, 0x00, 0x04, 0x20, 0x00, 0x01,
    0x08, 0x40, 0x00, 0x02, 0x10, 0x80, 0x11]

/-! ### WellFormed refuses each ill-formed term -/

theorem test_wellFormed_setChannels : ¬ (Instr.setChannels (List.replicate 256 0)).WellFormed := by
  simp only [Instr.WellFormed, Instr.wellFormed, List.length_replicate]
  decide
theorem test_wellFormed_crc8 : ¬ (Instr.crc8 (List.replicate 256 0)).WellFormed := by
  simp only [Instr.WellFormed, Instr.wellFormed, List.length_replicate]
  decide
theorem test_wellFormed_pack : ¬ (Instr.pack (List.replicate 256 0)).WellFormed := by
  simp only [Instr.WellFormed, Instr.wellFormed, List.length_replicate]
  decide
theorem test_wellFormed_buildFrame : ¬ (Instr.buildFrame 0 0 (List.replicate 256 0)).WellFormed := by
  simp only [Instr.WellFormed, Instr.wellFormed, List.length_replicate]
  decide
theorem test_wellFormed_parse : ¬ (Instr.parse (List.replicate 65536 0)).WellFormed := by
  simp only [Instr.WellFormed, Instr.wellFormed, List.length_replicate]
  decide

/-! ### Decoding of words written out from 30 R83 -/

theorem test_decode_getStatus : decode [0x01] = .ok .getStatus := rfl
theorem test_decode_getCounters : decode [0x02] = .ok .getCounters := rfl
theorem test_decode_setChannel : decode [0x10, 0x02, 0xDC, 0x05] = .ok (.setChannel 2 1500) := by decide +kernel
theorem test_decode_setChannel_negative : decode [0x10, 0x00, 0xFF, 0xFF] = .ok (.setChannel 0 (-1)) := by decide +kernel
theorem test_decode_setChannels : decode [0x11, 0x02, 0xDC, 0x05, 0x2C, 0x01] = .ok (.setChannels [1500, 300]) := by
  decide +kernel
theorem test_decode_arm : decode [0x12] = .ok .arm := rfl
theorem test_decode_disarm : decode [0x13] = .ok .disarm := rfl
theorem test_decode_resetControls : decode [0x14] = .ok .resetControls := rfl
theorem test_decode_startLink : decode [0x20, 0x00, 0xC2, 0x01, 0x00, 0x64, 0x00] = .ok (.startLink 115200 100) := by
  decide +kernel
theorem test_decode_stopLink : decode [0x21] = .ok .stopLink := rfl
theorem test_decode_crc8 : decode [0x30, 0x01, 0xFF] = .ok (.crc8 [0xFF]) := by decide +kernel
theorem test_decode_pack : decode [0x31, 0x02, 0xFF, 0xFF, 0x00, 0x08] = .ok (.pack [-1, 2048]) := by decide +kernel
theorem test_decode_unpack :
    decode (0x32 :: bytes (List.range 22)) = .ok (.unpack (Vector.ofFn fun i => BitVec.ofNat 8 i.val)) := by decide +kernel
theorem test_decode_buildFrame :
    decode [0x33, 0xEE, 0x21, 0x03, 0x01, 0x00, 0x00] = .ok (.buildFrame 0xEE 0x21 [1, 0, 0]) := by decide +kernel
theorem test_decode_parse : decode [0x34, 0x02, 0x00, 0xC8, 0x00] = .ok (.parse [0xC8, 0x00]) := by decide +kernel

/-- V-ER-01 to V-ER-06, V-CRC-17 to V-CRC-19, V-FC-07. -/
theorem test_decode_rejects :
    [[], [0x00], [0x03], [0x0F], [0x15], [0x1F], [0x22], [0x2F], [0x35], [0xFF], [0x00, 0x12],
      [0x20, 0x00, 0x00, 0x00, 0x00, 0x00], [0x01, 0x00], [0x30], [0x30, 0x02, 0x00], [0x30, 0x00, 0x00],
      [0x33, 0xEE, 0x21], [0x33, 0xEE, 0x21, 0x03, 0x01, 0x00]].map (fun p => answers p State.reset) =
    [0x05, 0x04, 0x04, 0x04, 0x04, 0x04, 0x04, 0x04, 0x04, 0x04, 0x04, 0x05, 0x05, 0x05, 0x05, 0x05, 0x05, 0x05].map
      fun b => some [[b]] := by decide +kernel

/-- A row's operand bytes above its table bits are 0. -/
theorem test_decodeTableWord :
    decodeTableWord 8 0x10 = some (.setChannel 0 0) ∧ decodeTableWord 8 0x31 = some (.pack []) ∧
    decodeTableWord 8 0x32 = some (.unpack (Vector.replicate 22 0)) ∧ decodeTableWord 8 0x03 = none := by decide +kernel

theorem test_withFetchWord_runs_it :
    (after (step (State.reset.withFetchWord 8 0x12))).map (·.responses) = some [[0x03]] ∧
    (after (step (State.reset.withFetchWord 8 0x30))).map (·.responses) = some [[0x00, 0x00]] := by decide +kernel

/-! ### The pure functions -/

/-- The CRC table of 40 R103, rows r0 to r7. -/
theorem test_crcTable_low :
    (List.range 128).map (fun i => (crcTable (BitVec.ofNat 8 i)).toNat) =
      [0x00, 0xD5, 0x7F, 0xAA, 0xFE, 0x2B, 0x81, 0x54, 0x29, 0xFC, 0x56, 0x83, 0xD7, 0x02, 0xA8, 0x7D] ++
      [0x52, 0x87, 0x2D, 0xF8, 0xAC, 0x79, 0xD3, 0x06, 0x7B, 0xAE, 0x04, 0xD1, 0x85, 0x50, 0xFA, 0x2F] ++
      [0xA4, 0x71, 0xDB, 0x0E, 0x5A, 0x8F, 0x25, 0xF0, 0x8D, 0x58, 0xF2, 0x27, 0x73, 0xA6, 0x0C, 0xD9] ++
      [0xF6, 0x23, 0x89, 0x5C, 0x08, 0xDD, 0x77, 0xA2, 0xDF, 0x0A, 0xA0, 0x75, 0x21, 0xF4, 0x5E, 0x8B] ++
      [0x9D, 0x48, 0xE2, 0x37, 0x63, 0xB6, 0x1C, 0xC9, 0xB4, 0x61, 0xCB, 0x1E, 0x4A, 0x9F, 0x35, 0xE0] ++
      [0xCF, 0x1A, 0xB0, 0x65, 0x31, 0xE4, 0x4E, 0x9B, 0xE6, 0x33, 0x99, 0x4C, 0x18, 0xCD, 0x67, 0xB2] ++
      [0x39, 0xEC, 0x46, 0x93, 0xC7, 0x12, 0xB8, 0x6D, 0x10, 0xC5, 0x6F, 0xBA, 0xEE, 0x3B, 0x91, 0x44] ++
      [0x6B, 0xBE, 0x14, 0xC1, 0x95, 0x40, 0xEA, 0x3F, 0x42, 0x97, 0x3D, 0xE8, 0xBC, 0x69, 0xC3, 0x16] := by
  decide +kernel

/-- The CRC table of 40 R103, rows r8 to r15. -/
theorem test_crcTable_high :
    (List.range 128).map (fun i => (crcTable (BitVec.ofNat 8 (i + 128))).toNat) =
      [0xEF, 0x3A, 0x90, 0x45, 0x11, 0xC4, 0x6E, 0xBB, 0xC6, 0x13, 0xB9, 0x6C, 0x38, 0xED, 0x47, 0x92] ++
      [0xBD, 0x68, 0xC2, 0x17, 0x43, 0x96, 0x3C, 0xE9, 0x94, 0x41, 0xEB, 0x3E, 0x6A, 0xBF, 0x15, 0xC0] ++
      [0x4B, 0x9E, 0x34, 0xE1, 0xB5, 0x60, 0xCA, 0x1F, 0x62, 0xB7, 0x1D, 0xC8, 0x9C, 0x49, 0xE3, 0x36] ++
      [0x19, 0xCC, 0x66, 0xB3, 0xE7, 0x32, 0x98, 0x4D, 0x30, 0xE5, 0x4F, 0x9A, 0xCE, 0x1B, 0xB1, 0x64] ++
      [0x72, 0xA7, 0x0D, 0xD8, 0x8C, 0x59, 0xF3, 0x26, 0x5B, 0x8E, 0x24, 0xF1, 0xA5, 0x70, 0xDA, 0x0F] ++
      [0x20, 0xF5, 0x5F, 0x8A, 0xDE, 0x0B, 0xA1, 0x74, 0x09, 0xDC, 0x76, 0xA3, 0xF7, 0x22, 0x88, 0x5D] ++
      [0xD6, 0x03, 0xA9, 0x7C, 0x28, 0xFD, 0x57, 0x82, 0xFF, 0x2A, 0x80, 0x55, 0x01, 0xD4, 0x7E, 0xAB] ++
      [0x84, 0x51, 0xFB, 0x2E, 0x7A, 0xAF, 0x05, 0xD0, 0xAD, 0x78, 0xD2, 0x07, 0x53, 0x86, 0x2C, 0xF9] := by
  decide +kernel

/-- The intermediate values of V-CRC-04. -/
theorem test_crcShifts_values :
    (List.range 8).map (fun n => (crcShifts (n + 1) 0x80).toNat) = [0xD5, 0x7F, 0xFE, 0x29, 0x52, 0xA4, 0x9D, 0xEF] := by
  decide +kernel

/-- V-CRC-08, V-CRC-11, V-CRC-12. -/
theorem test_crc8_sequences :
    crc8 [0x16, 0x16] = 0x59 ∧ crc8 [0x21, 0x01, 0x00, 0x00, 0x4F] = 0x00 ∧ crc8 [0x12, 0x34] = 0xAE ∧
    crc8 [0x56, 0x78] = 0x77 ∧ crc8 [0x44, 0x4C] = 0xD9 := by decide +kernel

/-- V-PK-06. -/
theorem test_pack_ramp :
    (pack (Vector.ofFn fun i => BitVec.ofNat 11 i.val)).toList =
      bytes [0x00, 0x08, 0x80, 0x00, 0x06, 0x40, 0x80, 0x02, 0x18, 0xE0, 0x00, 0x08, 0x48, 0x80, 0x02, 0x16, 0xC0, 0x80,
        0x06, 0x38, 0xE0, 0x01] := by decide +kernel

/-- V-PK-10. -/
theorem test_unpack_ramp :
    (unpack (Vector.ofFn fun i => BitVec.ofNat 8 i.val)).toList.map (·.toNat) =
      [256, 64, 12, 642, 96, 14, 578, 80, 1035, 417, 1080, 7, 273, 1572, 1284, 168] := by decide +kernel

/-- V-FC-11: a corrupted address is emitted. -/
theorem test_parse_wrong_address :
    parseStream (bytes [0xC9] ++ frameArm.drop 1 ++ frameArm) =
      (26, .frame { addr := 0xC9, frameType := 0x16, payload := armPayload }) := by decide +kernel

/-- V-FC-13: the false frame at offset 4. -/
theorem test_parse_false_frame :
    ((parseStream ((frameArm.set 10 0xFF ++ frameArm).drop 4)).1,
      match (parseStream ((frameArm.set 10 0xFF ++ frameArm).drop 4)).2 with
      | .frame f => some (f.addr, f.frameType, f.payload.length)
      | _ => none) = (34, some (0x04, 0x00, 30)) := by decide +kernel

/-- The forms of 30 R94. -/
theorem test_asm :
    asm .getStatus = "GET_STATUS" ∧ asm (.setChannel 2 (-1)) = "SET_CHANNEL 2, -1" ∧
    asm (.startLink 115200 100) = "START_LINK 115200, 100" ∧ asm (.crc8 []) = "CRC8 []" ∧
    asm bindFrame = "BUILD_FRAME 238, 33, [1, 0, 0]" := by decide +kernel

/-! ### One step of each command -/

/-- V-LK-01 up to the timestamp. -/
theorem test_getStatus_reset :
    (answers [0x01] State.reset).map (·.map (·.take 34)) =
      some [bytes ([0x00, 0x00, 0x00, 0x04, 0x00, 0x04, 0x00, 0x00] ++
        (List.replicate 13 [0x00, 0x04]).flatten)] := by decide +kernel

/-- V-CS-12 and program P1: FLAGS = 0B, CH[4] = 2047. -/
theorem test_getStatus_armed :
    (answers [0x01] (armedIn .running)).map (·.map (·.take 12)) =
      some [bytes [0x00, 0x0B, 0x00, 0x04, 0x00, 0x04, 0x00, 0x00, 0x00, 0x04, 0xFF, 0x07]] := by decide +kernel

/-- V-LK-20. -/
theorem test_getCounters :
    answers [0x02] { inState .running with crcErrCnt := 1, rxOvfCnt := 43 } =
      some [bytes [0x00, 0x01, 0x00, 0x00, 0x00, 0x00, 0x00, 0x00, 0x00, 0x2B, 0x00, 0x00, 0x00]] := by decide +kernel

/-- V-CS-02. -/
theorem test_setChannel_clamps :
    (after (takeTurn (.command [0x10, 0x02, 0x00, 0x08]) (inState .running))).map
      (fun s => (s.responses, channels s)) =
      some ([[0x00]], [1024, 1024, 2047, 1024, 1024] ++ List.replicate 11 1024) := by decide +kernel

/-- V-ER-07: the reserved channel before the state check. -/
theorem test_setChannel_reserved : answers [0x10, 0x04, 0x00, 0x00] State.reset = some [[0x07]] := by decide +kernel

/-- V-CS-10. -/
theorem test_setChannels_clamps :
    (after (takeTurn (.command (bytes ([0x11, 0x10, 0xFB, 0xFF, 0xB8, 0x0B] ++ List.replicate 28 0x00)))
      (inState .running))).map (fun s => (s.responses, channels s)) =
      some ([[0x00]], [0, 2047, 0, 0, 1024] ++ List.replicate 11 0) := by decide +kernel

/-- V-CS-19: the count before the state check. -/
theorem test_setChannels_count :
    answers (bytes ([0x11, 0x0F] ++ List.replicate 30 0x00)) State.reset = some [[0x02]] := by decide +kernel

/-- V-CS-12. -/
theorem test_arm :
    (after (takeTurn (.command [0x12]) (inState .running))).map (fun s => (s.responses, s.ch[4], s.armed, s.flags)) =
      some ([[0x00]], 2047, true, 0x0B) := by decide +kernel

/-- V-CS-17. -/
theorem test_arm_closed :
    (after (takeTurn (.command [0x12]) State.reset)).map (fun s => (s.responses, s.ch[4], s.armed)) =
      some ([[0x03]], 1024, false) := by decide +kernel

/-- V-CS-14. -/
theorem test_disarm :
    (after (takeTurn (.command [0x13]) { armedIn .running with ch := (armedIn .running).ch.set 2 700 })).map
      (fun s => (s.responses, s.ch[4], s.armed, s.ch[2])) = some ([[0x00]], 1024, false, 700) := by decide +kernel

/-- V-CS-15. -/
theorem test_resetControls :
    (after (takeTurn (.command [0x14])
      { armedIn .running with ch := (((defaultChannels.set 0 200).set 1 1800).set 2 700).set 3 1900 |>.set 4 2047 })).map
      (fun s => (s.responses, (channels s).take 5, s.armed)) =
      some ([[0x00]], [1024, 1024, 700, 1024, 2047], true) := by decide +kernel

/-- V-LK-03. -/
theorem test_startLink_err :
    (after (takeTurn (.command [0x20, 0x00, 0x00, 0x00, 0x00, 0x00, 0x00]) (State.answering State.reset [.err] [] []))).map
      (fun s => (s.responses, s.trace, s.lstate, s.lastErr, s.flags)) =
      some ([[0x01]], [.tpOpen 420000], .closed, true, 0x10) := by decide +kernel

/-- V-LK-08. -/
theorem test_startLink_ok :
    (after (takeTurn (.command [0x20, 0x00, 0xC2, 0x01, 0x00, 0x64, 0x00]) (State.answering State.reset [.ok] [] []))).map
      (fun s => (s.responses, s.trace, s.cfgBaud, s.cfgRate, s.flags)) =
      some ([[0x00]], [.tpOpen 115200], 115200, 100, 0x06) := by decide +kernel

/-- V-LK-09. -/
theorem test_stopLink :
    (after (takeTurn (.command [0x21]) { armedIn .opened with ch := (armedIn .opened).ch.set 2 1500 })).map
      (fun s => (s.responses, s.ch[2], s.ch[4], s.armed, s.flags)) =
      some ([[0x00]], 0, 1024, false, 0x0E) := by decide +kernel

/-- V-LK-10. -/
theorem test_stopLink_twice : answers [0x21] (inState .shuttingDown) = some [[0x08]] := by decide +kernel

/-- V-CRC-15. -/
theorem test_crc8_check :
    answers (bytes [0x30, 0x09, 0x31, 0x32, 0x33, 0x34, 0x35, 0x36, 0x37, 0x38, 0x39]) State.reset =
      some [[0x00, 0xBC]] := by decide +kernel

/-- V-CRC-20. -/
theorem test_crc8_payload : answers (bytes [0x30, 0x17, 0x16] ++ armPayload) State.reset = some [[0x00, 0x65]] := by
  decide +kernel

/-- V-PK-13: PACK masks, it does not clamp. -/
theorem test_pack_masks :
    answers (bytes ([0x31, 0x10, 0xFF, 0xFF, 0x00, 0x08, 0xFF, 0x7F, 0x00, 0x80] ++ List.replicate 24 0x00)) State.reset =
      some [bytes ([0x00, 0xFF, 0x07, 0xC0, 0xFF, 0x01] ++ List.replicate 17 0x00)] := by decide +kernel

/-- V-PK-14. -/
theorem test_pack_arm :
    answers (bytes ([0x31, 0x10, 0x00, 0x04, 0x00, 0x04, 0x00, 0x00, 0x00, 0x04, 0xFF, 0x07] ++
      (List.replicate 11 [0x00, 0x04]).flatten)) State.reset = some [0x00 :: armPayload] := by decide +kernel

/-- V-PK-18. -/
theorem test_unpack_command :
    answers (0x32 :: bytes (List.range 22)) State.reset =
      some [bytes [0x00, 0x00, 0x01, 0x40, 0x00, 0x0C, 0x00, 0x82, 0x02, 0x60, 0x00, 0x0E, 0x00, 0x42, 0x02, 0x50, 0x00,
        0x0B, 0x04, 0xA1, 0x01, 0x38, 0x04, 0x07, 0x00, 0x11, 0x01, 0x24, 0x06, 0x04, 0x05, 0xA8, 0x00]] := by decide +kernel

/-- V-FC-04. -/
theorem test_buildFrame :
    answers [0x33, 0xEE, 0x21, 0x03, 0x01, 0x00, 0x00] State.reset =
      some [bytes [0x00, 0xEE, 0x05, 0x21, 0x01, 0x00, 0x00, 0x4F]] := by decide +kernel

/-- V-FC-06. -/
theorem test_buildFrame_too_long :
    answers (bytes ([0x33, 0x00, 0x00, 0xFE] ++ List.replicate 254 0x00)) State.reset = some [[0x06]] := by decide +kernel

/-- V-FC-08 on F_ARM. -/
theorem test_parse_frame :
    answers (bytes [0x34, 0x1A, 0x00] ++ frameArm) State.reset =
      some [bytes [0x00, 0x1A, 0x00, 0x01, 0xC8, 0x16, 0x16] ++ armPayload] := by decide +kernel

/-- V-FC-08 on a bad CRC, a bad length and a partial frame. -/
theorem test_parse_events :
    answers (bytes [0x34, 0x04, 0x00, 0xC8, 0x02, 0x10, 0x53]) State.reset = some [[0x00, 0x01, 0x00, 0x02]] ∧
    answers (bytes [0x34, 0x03, 0x00, 0xC8, 0x01, 0x10]) State.reset = some [[0x00, 0x01, 0x00, 0x03]] ∧
    answers (bytes [0x34, 0x03, 0x00, 0xC8, 0x02, 0x10]) State.reset = some [[0x00, 0x00, 0x00, 0x00]] := by decide +kernel

/-! ### One step of each other turn -/

/-- V-LK-06. -/
theorem test_openDone :
    (after (takeTurn .openDone (inState .opened))).map (fun s => (s.lstate, s.flags)) = some (.running, 0x0A) := by
  decide +kernel

/-- V-LK-07. -/
theorem test_txTick :
    (after (takeTurn .txTick (State.answering (inState .running) [] [.ok] []))).map (·.trace) =
      some [.tpWrite frameDef] := by decide +kernel

/-- A failed write in Running, as in program P3 step 11. -/
theorem test_txTick_err :
    (after (takeTurn .txTick (State.answering (armedIn .running) [] [.err] []))).map
      (fun s => (s.trace, s.lstate, s.lastErr, s.armed, s.ch[4])) =
      some ([.tpWrite frameArm, .linkError, .tpClose], .closed, true, false, 1024) := by decide +kernel

/-- V-LK-15, the read: RXBUF_CAP is any value of at least 257. -/
theorem test_rxRead :
    (after (takeTurn .rxRead (State.answering (inState .running) [] [] [.bytes [0xEE, 0x05, 0x21]]))).map
      (fun s => (s.rxbuf, s.rxOvfCnt, s.trace)) = some ([0xEE, 0x05, 0x21], 0, [.tpRead]) := by
  have hroom : 3 ≤ Config.rxbufCap := by
    unfold Config.rxbufCap
    omega
  simp [takeTurn_rxRead, after, State.answering, inState, State.reset, State.readAnswer, rxResult, State.rxAppendAll_eq,
    hroom]

/-- V-LK-18. -/
theorem test_rxRead_err :
    (after (takeTurn .rxRead (State.answering (armedIn .running) [] [] [.err]))).map
      (fun s => (s.trace, s.lstate, s.lastErr, s.armed, s.ch[4])) =
      some ([.tpRead, .linkError, .tpClose], .closed, true, false, 1024) := by decide +kernel

/-- V-LK-16, the parse. -/
theorem test_rxParse :
    (after (takeTurn .rxParse { inState .running with rxbuf := [0xEE, 0x05, 0x21, 0x01, 0x00, 0x00, 0x4F] })).map
      (fun s => (s.rxbuf, s.trace)) =
      some ([], [.frameOut { addr := 0xEE, frameType := 0x21, payload := [1, 0, 0] }]) := by decide +kernel

/-- V-LK-12. -/
theorem test_finalTx :
    (after (takeTurn .finalTx (State.answering
      { inState .shuttingDown with ch := Vector.ofFn fun i => if i.val = 2 then 0 else if i.val < 5 then 1024 else 0 }
      [] [.ok] []))).map (fun s => (s.trace, s.lstate)) =
      some ([.tpWrite (bytes ([0xC8, 0x18, 0x16, 0x00, 0x04, 0x20, 0x00, 0x00, 0x08, 0x40] ++ List.replicate 15 0x00 ++
        [0x26])), .tpClose], .closed) := by decide +kernel

/-- V-LK-13. -/
theorem test_finalTx_err :
    (after (takeTurn .finalTx (State.answering (inState .shuttingDown) [] [.err] []))).map
      (fun s => (s.trace, s.lstate, s.lastErr)) =
      some ([.tpWrite frameDef, .linkError, .tpClose], .closed, true) := by decide +kernel

/-- V-LK-21. -/
theorem test_reset :
    after (takeTurn .reset { armedIn .running with rxbuf := [0xC8], crcErrCnt := 5, lastErr := true, cfgBaud := 115200 }) =
      some { State.reset with trace := [.tpClose] } := by decide +kernel

/-! ### States and operands that meet the statements' hypotheses -/

theorem witness_DecodeReadsBackEveryEncodedCommand :
    (Instr.setChannels (List.replicate 255 0)).WellFormed ∧ (Instr.crc8 []).WellFormed ∧
    (Instr.buildFrame 0xFF 0xFF (List.replicate 255 0)).WellFormed ∧ (Instr.parse (List.replicate 65535 0)).WellFormed := by
  simp only [Instr.WellFormed, Instr.wellFormed, List.length_replicate]
  decide

theorem witness_AcceptedPacketIsItsCommandsEncoding :
    decode [0x12] = .ok .arm ∧ decode [0x34, 0x00, 0x00] = .ok (.parse []) := by decide +kernel

theorem witness_RejectedPacketsAnswerAndChangeNothing :
    (0x00 : Byte) ∉ ([0x01, 0x02, 0x10, 0x11, 0x12, 0x13, 0x14, 0x20, 0x21, 0x30, 0x31, 0x32, 0x33, 0x34] : List Byte) ∧
    (0x35 : Byte) ∉ ([0x01, 0x02, 0x10, 0x11, 0x12, 0x13, 0x14, 0x20, 0x21, 0x30, 0x31, 0x32, 0x33, 0x34] : List Byte) ∧
    ([0x12, 0x00] : List Byte).length ≠ 1 ∧ ([0x10, 0x00, 0x00] : List Byte).length ≠ 4 ∧
    ([0x20] : List Byte).length ≠ 7 ∧ ([0x32] : List Byte).length ≠ 23 ∧
    ([0x31] : List Byte).length < 2 ∧ ([0x11, 0x01, 0x00] : List Byte).length ≠ 2 + 2 * (byteAt [0x11, 0x01, 0x00] 1).toNat ∧
    ([0x30, 0x00, 0x00] : List Byte).length ≠ 2 + (byteAt [0x30, 0x00, 0x00] 1).toNat ∧
    ([0x33, 0xEE, 0x21] : List Byte).length < 4 ∧
    ([0x34, 0x00, 0x01] : List Byte).length ≠
      3 + (byteAt [0x34, 0x00, 0x01] 1).toNat + 256 * (byteAt [0x34, 0x00, 0x01] 2).toNat := by decide +kernel

theorem witness_StepTakesTheNextTurn :
    (State.reset.withInputs { Inputs.none with turns := [.txTick] }).inp.turns = [.txTick] ∧ State.reset.inp.turns = [] :=
  ⟨rfl, rfl⟩

theorem witness_StepRunsTheDecodedCommand :
    (State.reset.withInputs { Inputs.none with turns := [.command [0x12]] }).inp.turns = [.command [0x12]] ∧
    decode [0x12] = .ok .arm := ⟨rfl, rfl⟩

theorem witness_ListedAnswersAreUsedInOrder :
    (State.answering State.reset [.err] [.ok, .err] [.bytes [], .err]).inp.openAns = [.err] ∧
    (State.answering State.reset [.err] [.ok, .err] [.bytes [], .err]).inp.writeAns = [.ok, .err] ∧
    (State.answering State.reset [.err] [.ok, .err] [.bytes [], .err]).inp.readAns = [.bytes [], .err] := ⟨rfl, rfl, rfl⟩

theorem witness_DisabledTurnsPass :
    State.reset.lstate ≠ .opened ∧ State.reset.lstate ≠ .running ∧ State.reset.lstate ≠ .shuttingDown ∧
    (inState .running).lstate = .running ∧ (parseStream (inState .running).rxbuf).1 = 0 := by decide +kernel

theorem witness_EachCommandGetsOneResponse :
    (∃ s', takeTurn (.command []) State.reset = .next s') ∧ (∃ s', takeTurn .openDone (inState .opened) = .next s') ∧
    (∃ s', takeTurn .txTick (inState .running) = .next s') ∧ (∃ s', takeTurn .rxRead (inState .running) = .next s') ∧
    (∃ s', takeTurn .rxParse (inState .running) = .next s') ∧ (∃ s', takeTurn .finalTx (inState .shuttingDown) = .next s') ∧
    (∃ s', takeTurn .reset (inState .running) = .next s') :=
  ⟨⟨_, rfl⟩, ⟨_, rfl⟩, ⟨_, rfl⟩, ⟨_, rfl⟩, ⟨_, rfl⟩, ⟨_, rfl⟩, ⟨_, rfl⟩⟩

theorem witness_ResponsesStartWithAStatusByte :
    (∃ s', takeTurn (.command [0x30, 0x01, 0xFF]) State.reset = .next s') ∧
    (∃ s', takeTurn (.command [0xFF]) State.reset = .next s') := ⟨⟨_, rfl⟩, ⟨_, rfl⟩⟩

theorem witness_CrcAlgebraicLaws : ([0x12, 0x34] : List Byte).length = ([0x56, 0x78] : List Byte).length := rfl

theorem witness_PackPlacesEveryChannelBit : 0 < 16 ∧ 15 < 16 ∧ 0 < 11 ∧ 10 < 11 := by decide

theorem witness_PackCommandMasksAndPacks :
    (List.replicate 15 (0 : Half)).length ≠ 16 ∧ (List.replicate 17 (0 : Half)).length ≠ 16 ∧
    ([] : List Half).length ≠ 16 := by decide

theorem witness_UnpackCommandAnswersTheChannels :
    (List.replicate 21 (0 : Byte)).length ≠ 22 ∧ (List.replicate 23 (0 : Byte)).length ≠ 22 := by decide

theorem witness_ParseStreamFollowsItsFiveCases :
    ([0xC8] : List Byte).length < 2 ∧ (0x01 : Byte).toNat < 2 ∧
    (2 ≤ (0x02 : Byte).toNat ∧ ([0x10] : List Byte).length < (0x02 : Byte).toNat) ∧
    ((0x02 : Byte).toNat = ([] : List Byte).length + 2 ∧ (0x52 : Byte) = crc8 (0x10 :: [])) ∧
    ((0x02 : Byte).toNat = ([] : List Byte).length + 2 ∧ (0x53 : Byte) ≠ crc8 (0x10 :: [])) ∧
    (0xFF : Byte).toNat = (List.replicate 253 (0 : Byte)).length + 2 := by decide +kernel

theorem witness_ParseStreamConsumptionBounds :
    (parseStream [0xC8, 0x00]).2 = .lenInvalid ∧ (parseStream [0xC8, 0x02, 0x10, 0x53]).2 = .crcMismatch ∧
    (parseStream [0xC8, 0x02, 0x10, 0x52]).2 = .frame { addr := 0xC8, frameType := 0x10, payload := [] } ∧
    257 ≤ (List.replicate 257 (0 : Byte)).length := by decide +kernel

theorem witness_ParsingABuiltFrameGivesItBack :
    ([] : List Byte).length ≤ 253 ∧ (List.replicate 253 (0 : Byte)).length ≤ 253 := by decide +kernel

theorem witness_BuildFrameCommandAnswersTheFrame :
    ([0xEE, 0x21] : List Byte).length < 3 ∧ 253 < (List.replicate 254 (0 : Byte)).length ∧
    (List.replicate 253 (0 : Byte)).length ≤ 253 := by decide +kernel

theorem witness_ParseCommandAnswersOneParse :
    ([0x01] : List Byte).length < 2 ∧
    parseStream [0xC8, 0x02, 0x10, 0x52] = (4, .frame { addr := 0xC8, frameType := 0x10, payload := [] }) ∧
    (parseStream []).2 = .needMore ∧ (parseStream [0xC8, 0x02, 0x10, 0x53]).2 = .crcMismatch ∧
    (parseStream [0xC8, 0x01]).2 = .lenInvalid := by decide +kernel

theorem witness_SetChannelClampsOneChannel :
    ([0x02, 0xDC] : List Byte).length ≠ 3 ∧ 15 < (16 : Byte).toNat ∧
    ((15 : Byte).toNat ≤ 15 ∧ (15 : Byte) ≠ 4 ∧ (inState .closed).lstate = .closed) ∧
    ((3 : Byte).toNat ≤ 15 ∧ (3 : Byte) ≠ 4 ∧ (inState .shuttingDown).lstate = .shuttingDown) ∧
    ((5 : Byte).toNat ≤ 15 ∧ (5 : Byte) ≠ 4 ∧ (inState .opened).lstate = .opened) ∧
    ((0 : Byte).toNat ≤ 15 ∧ (0 : Byte) ≠ 4 ∧ (inState .running).lstate = .running) := by decide

theorem witness_SetChannelsClampsAllButTheArmSwitch :
    (List.replicate 15 (0 : Half)).length ≠ 16 ∧
    ((List.replicate 16 (0 : Half)).length = 16 ∧ (inState .closed).lstate = .closed) ∧
    ((List.replicate 16 (0 : Half)).length = 16 ∧ (inState .shuttingDown).lstate = .shuttingDown) ∧
    (inState .opened).lstate = .opened ∧ (inState .running).lstate = .running := by decide

/-- The lifecycle hypotheses of the command statements. -/
theorem witness_lifecycle_states :
    (inState .closed).lstate = .closed ∧ (inState .shuttingDown).lstate = .shuttingDown ∧
    (inState .opened).lstate = .opened ∧ (inState .running).lstate = .running := ⟨rfl, rfl, rfl, rfl⟩

theorem witness_ArmSetsTheArmSwitch :
    (inState .closed).lstate = .closed ∧ (inState .shuttingDown).lstate = .shuttingDown ∧
    (inState .opened).lstate = .opened ∧ (inState .running).lstate = .running := witness_lifecycle_states

theorem witness_DisarmClearsTheArmSwitch :
    (armedIn .running).lstate = .running ∧ (armedIn .opened).lstate = .opened ∧ (armedIn .running).armed = true ∧
    (inState .closed).lstate = .closed ∧ (inState .shuttingDown).lstate = .shuttingDown := ⟨rfl, rfl, rfl, rfl, rfl⟩

theorem witness_ResetControlsCentresTheSticks :
    (inState .closed).lstate = .closed ∧ (inState .shuttingDown).lstate = .shuttingDown ∧
    (inState .opened).lstate = .opened ∧ (inState .running).lstate = .running := witness_lifecycle_states

theorem witness_ReadsPureCommandsAndIdempotency :
    (∃ t, exec .getStatus State.reset = .next t) ∧ (∃ t, exec (.parse []) State.reset = .next t) ∧
    (∃ t, exec .arm (inState .running) = .next t ∧ t.responses = (inState .running).responses ++ [[0x00]]) ∧
    (∃ t, exec .arm State.reset = .next t ∧ t.responses = State.reset.responses ++ [[0x03]]) ∧
    (∃ t, exec (.startLink 0 0) (State.answering State.reset [.ok] [] []) = .next t ∧ t.lstate ≠ .closed) ∧
    (∃ t, exec .stopLink (inState .running) = .next t ∧ t.lstate ≠ .running) :=
  ⟨⟨_, rfl⟩, ⟨_, rfl⟩, ⟨_, rfl, rfl⟩, ⟨_, rfl, rfl⟩, ⟨_, rfl, by decide⟩, ⟨_, rfl, by decide⟩⟩

theorem witness_StartLinkOpensASession :
    ([0x00, 0x00] : List Byte).length ≠ 6 ∧ (inState .running).lstate ≠ .closed ∧
    ((State.answering State.reset [.err] [] []).lstate = .closed ∧
      (State.answering State.reset [.err] [] []).openAnswer = .err) ∧
    ((State.answering State.reset [.ok] [] []).lstate = .closed ∧
      (State.answering State.reset [.ok] [] []).openAnswer = .ok) := by decide

theorem witness_StopLinkRunsTheShutdownSequence :
    (inState .closed).lstate = .closed ∧ (inState .shuttingDown).lstate = .shuttingDown ∧
    (inState .opened).lstate = .opened ∧ (inState .running).lstate = .running := witness_lifecycle_states

theorem witness_OpenDoneStartsRunning : (inState .opened).lstate = .opened := rfl

theorem witness_TxTickSendsTheCurrentChannels :
    (State.answering (inState .running) [] [.ok] []).lstate = .running ∧
    (State.answering (inState .running) [] [.ok] []).writeAnswer = .ok ∧
    (State.answering (inState .running) [] [.err] []).lstate = .running ∧
    (State.answering (inState .running) [] [.err] []).writeAnswer = .err := ⟨rfl, rfl, rfl, rfl⟩

theorem witness_RxReadFillsTheReceiveBuffer :
    (State.answering (inState .running) [] [] [.bytes [0xC8]]).lstate = .running ∧
    (State.answering (inState .running) [] [] [.bytes [0xC8]]).readAnswer = .bytes [0xC8] ∧
    (State.answering (inState .running) [] [] [.err]).lstate = .running ∧
    (State.answering (inState .running) [] [] [.err]).readAnswer = .err := ⟨rfl, rfl, rfl, rfl⟩

theorem witness_RxParseConsumesAndReports :
    (inState .running).lstate = .running ∧ 0 < 4 ∧ 0 < 1 ∧
    parseStream { inState .running with rxbuf := [0xC8, 0x02, 0x10, 0x52] }.rxbuf =
      (4, .frame { addr := 0xC8, frameType := 0x10, payload := [] }) ∧
    parseStream { inState .running with rxbuf := [0xC8, 0x02, 0x10, 0x53] }.rxbuf = (1, .crcMismatch) ∧
    parseStream { inState .running with rxbuf := [0xC8, 0x01] }.rxbuf = (1, .lenInvalid) := by decide +kernel

theorem witness_FinalSendsOneFrameAndCloses :
    (State.answering (inState .shuttingDown) [] [.ok] []).lstate = .shuttingDown ∧
    (State.answering (inState .shuttingDown) [] [.ok] []).writeAnswer = .ok ∧
    (State.answering (inState .shuttingDown) [] [.err] []).lstate = .shuttingDown ∧
    (State.answering (inState .shuttingDown) [] [.err] []).writeAnswer = .err := ⟨rfl, rfl, rfl, rfl⟩

theorem witness_LifecycleFollowsTheTransitionTable :
    (∃ s', takeTurn (.command [0x20, 0, 0, 0, 0, 0, 0]) (State.answering State.reset [.ok] [] []) = .next s') ∧
    (∃ s', takeTurn (.command [0x21]) (inState .running) = .next s') ∧ (∃ s', takeTurn .openDone (inState .opened) = .next s') ∧
    (∃ s', takeTurn .txTick (State.answering (inState .running) [] [.err] []) = .next s') ∧
    (∃ s', takeTurn .rxRead (State.answering (inState .running) [] [] [.err]) = .next s') ∧
    (∃ s', takeTurn .finalTx (inState .shuttingDown) = .next s') ∧ (∃ s', takeTurn .reset (inState .running) = .next s') :=
  ⟨⟨_, rfl⟩, ⟨_, rfl⟩, ⟨_, rfl⟩, ⟨_, rfl⟩, ⟨_, rfl⟩, ⟨_, rfl⟩, ⟨_, rfl⟩⟩

theorem witness_ArmSwitchChangesOnlyBySafetySteps :
    (∃ s', takeTurn (.command [0x12]) (inState .running) = .next s' ∧ s'.ch[4] ≠ (inState .running).ch[4]) ∧
    (∃ s', takeTurn .reset (armedIn .running) = .next s' ∧ s'.ch[4] ≠ (armedIn .running).ch[4]) :=
  ⟨⟨_, rfl, by decide +kernel⟩, ⟨_, rfl, by decide +kernel⟩⟩

theorem witness_LastErrIsStickyUntilANewSession :
    (∃ s', takeTurn (.command [0x20, 0, 0, 0, 0, 0, 0]) (State.answering State.reset [.err] [] []) = .next s') ∧
    (∃ s', takeTurn .finalTx (State.answering (inState .shuttingDown) [] [.err] []) = .next s') ∧
    (∃ s', takeTurn .reset { inState .running with lastErr := true } = .next s') := ⟨⟨_, rfl⟩, ⟨_, rfl⟩, ⟨_, rfl⟩⟩

theorem witness_ConfigurationChangesOnlyByStartLinkAndReset :
    ∃ s', takeTurn (.command [0x20, 0x01, 0, 0, 0, 0x01, 0]) (State.answering State.reset [.err] [] []) = .next s' ∧
      s'.cfgBaud ≠ State.reset.cfgBaud ∧ s'.cfgRate ≠ State.reset.cfgRate :=
  ⟨_, rfl, by decide +kernel, by decide +kernel⟩

theorem witness_CountersChangeOnlyByReceiverEventsAndReset :
    (∃ s', takeTurn .rxParse { inState .running with rxbuf := [0xC8, 0x02, 0x10, 0x53] } = .next s' ∧ s'.crcErrCnt ≠ 0) ∧
    (∃ s', takeTurn .rxParse { inState .running with rxbuf := [0xC8, 0x01] } = .next s' ∧ s'.lenErrCnt ≠ 0) :=
  ⟨⟨_, rfl, by decide +kernel⟩, ⟨_, rfl, by decide +kernel⟩⟩

/-- A read that returns one byte more than RXBUF_CAP changes RX_OVF_CNT. -/
theorem witness_CountersChangeOnlyByReceiverEventsAndReset_overflow :
    ∃ s', takeTurn .rxRead
        (State.answering (inState .running) [] [] [.bytes (List.replicate (Config.rxbufCap + 1) 0)]) = .next s' ∧
      s'.rxOvfCnt ≠ 0 := by
  refine ⟨_, takeTurn_rxRead _, ?_⟩
  simp [State.answering, inState, State.reset, State.readAnswer, rxResult, State.rxAppendAll_eq]

theorem witness_ReceivedBytesNeverTouchControlState :
    (∃ s', takeTurn .rxParse { inState .running with rxbuf := [0xC8, 0x01] } = .next s') ∧
    (∃ s', takeTurn .rxRead (State.answering (inState .running) [] [] [.bytes [0xC8]]) = .next s') ∧
    (State.answering (inState .running) [] [] [.bytes [0xC8]]).readAnswer ≠ .err := ⟨⟨_, rfl⟩, ⟨_, rfl⟩, by decide⟩

theorem witness_FramesAreSentOnlyByTxTickAndFinal :
    (∃ s', takeTurn .txTick (inState .running) = .next s') ∧ (∃ s', takeTurn .finalTx (inState .shuttingDown) = .next s') ∧
    (∃ s', takeTurn .rxRead (inState .running) = .next s') := ⟨⟨_, rfl⟩, ⟨_, rfl⟩, ⟨_, rfl⟩⟩

theorem witness_SynchronousErrorsArePrecise :
    (∃ s', takeTurn (.command [0x12]) State.reset = .next s' ∧ s'.responses = State.reset.responses ++ [[0x03]]) ∧
    (∃ s', takeTurn (.command [0x20, 0, 0, 0, 0, 0, 0]) (State.answering State.reset [.err] [] []) = .next s' ∧
      s'.responses = State.reset.responses ++ [[0x01]]) ∧
    (0x03 : Byte) ≠ 0x00 ∧ (0x01 : Byte) ≠ 0x00 := ⟨⟨_, rfl, rfl⟩, ⟨_, rfl, rfl⟩, by decide, by decide⟩

/-- STOP_LINK, one turn of another agent in ShuttingDown, then FINAL. -/
theorem witness_FinalFrameIsTheShutdownSnapshot :
    ∃ t u v : State, (inState .running).lstate = .running ∧ exec .stopLink (inState .running) = .next t ∧
      StepsWithin (fun x => x.lstate = .shuttingDown) t u ∧ takeTurn .finalTx u = .next v :=
  ⟨_, _, _, rfl, rfl, .step _ _ { Inputs.none with turns := [.command [0x12]] } .refl rfl rfl, rfl⟩

theorem witness_ReceiverEmitsFramesInOrder :
    (∀ f ∈ [({ addr := 0xC8, frameType := 0x10, payload := [] } : Frame), { addr := 0xEE, frameType := 0, payload := [] }],
      f.payload.length ≤ 253) ∧
    ({ inState .running with rxbuf := [0xC8, 0x02, 0x10, 0x52, 0xEE, 0x02, 0x00, 0x00] } : State).lstate = .running ∧
    ({ inState .running with rxbuf := [0xC8, 0x02, 0x10, 0x52, 0xEE, 0x02, 0x00, 0x00] } : State).rxbuf =
      [({ addr := 0xC8, frameType := 0x10, payload := [] } : Frame), { addr := 0xEE, frameType := 0, payload := [] }].flatMap
        (fun f => buildFrame f.addr f.frameType f.payload) := by decide +kernel

/-- An armed running state is safe, and steps. -/
theorem witness_EveryStepKeepsTheInvariant :
    Inv (armedIn .running) ∧ ∃ s', step ((armedIn .running).withInputs { Inputs.none with turns := [.txTick] }) = .next s' := by
  refine ⟨⟨⟨?_, ?_⟩, ?_, ?_, ?_, ?_, ?_⟩, _, rfl⟩
  · decide
  · decide
  · intro h; cases h
  · intro h; cases h
  · exact Nat.zero_le _
  · intro _; rfl
  · intro _; rfl

/-- A running state is reachable. -/
theorem witness_Reachable : ∃ s, Reachable s ∧ s.lstate = .running :=
  ⟨_, .step _ _ { Inputs.none with turns := [.openDone] }
    (.step _ _ { Inputs.none with turns := [.command [0x20, 0, 0, 0, 0, 0, 0]], openAns := [.ok] } .reset rfl) rfl, rfl⟩

theorem witness_ReachableStatesAreArmConsistentAndFailsafe : ∃ s, Reachable s ∧ s.lstate = .running := witness_Reachable

theorem witness_ReachableReceiveBufferIsBounded : Reachable State.reset ∧ State.reset.lstate = .closed := ⟨.reset, rfl⟩

/-- Two steps into a Closed state that no further input leaves. -/
def closing (a b c : State) (i j k : Inputs) (hab : step (a.withInputs i) = .next b) (hbc : step (b.withInputs j) = .next c)
    (hcc : step (c.withInputs k) = .next c) : Execution where
  state
    | 0 => a
    | 1 => b
    | _ + 2 => c
  inputs
    | 0 => i
    | 1 => j
    | _ + 2 => k
  steps
    | 0 => hab
    | 1 => hbc
    | _ + 2 => hcc

/-- Such an execution is fair. -/
theorem closing_fair (a b c : State) (i j k : Inputs) (hab : step (a.withInputs i) = .next b)
    (hbc : step (b.withInputs j) = .next c) (hcc : step (c.withInputs k) = .next c) (hc : c.lstate = .closed) :
    (closing a b c i j k hab hbc hcc).Fair := by
  have hstate : ∀ n, (closing a b c i j k hab hbc hcc).state (n + 2) = c := fun _ => rfl
  refine ⟨?_, ?_, ?_, ?_⟩
  · exact fun n => ⟨n + 2, by omega, .inl (by rw [hstate]; simp [Turn.enabled, hc])⟩
  · exact fun n => ⟨n + 2, by omega, .inl (by rw [hstate]; simp [Turn.enabled, hc])⟩
  · exact fun n => ⟨n + 2, by omega, .inl (by rw [hstate]; simp [Turn.enabled, hc])⟩
  · intro n h
    have := h (n + 2) (by omega)
    rw [hstate, hc] at this
    cases this

/-- Running, STOP_LINK, FINAL: ShuttingDown at step 1. -/
theorem witness_FairShutdownReachesClosed : ∃ x : Execution, x.Fair ∧ (x.state 1).lstate = .shuttingDown :=
  ⟨closing (inState .running) _ _ { Inputs.none with turns := [.command [0x21]] }
    { Inputs.none with turns := [.finalTx], writeAns := [.ok] } { Inputs.none with turns := [.openDone] } rfl rfl rfl,
    closing_fair _ _ _ _ _ _ _ _ _ rfl, rfl⟩

/-- The same execution, whose host has no further command after its STOP_LINK, has ended at step 2 (44 R217). -/
theorem test_run_ends : ∃ x : Execution, RunEnded x 2 ∧ (x.state 2).observation.trace = [.tpWrite frameDef, .tpClose] := by
  refine ⟨closing (inState .running) _ _ { Inputs.none with turns := [.command [0x21]] }
    { Inputs.none with turns := [.finalTx], writeAns := [.ok] } { Inputs.none with turns := [.openDone] } rfl rfl rfl,
    ⟨?_, rfl, rfl, rfl⟩, by decide +kernel⟩
  intro m p hm
  obtain ⟨k, rfl⟩ : ∃ k, m = k + 2 := ⟨m - 2, by omega⟩
  intro h
  cases h

/-- It has not ended in ShuttingDown, where FINAL is owed. -/
theorem test_run_not_ended : ∀ x : Execution, (x.state 1).lstate = .shuttingDown → ¬ RunEnded x 1 := by
  intro x hx h
  rw [h.closed] at hx
  cases hx

/-- Open, OPEN_DONE, a failed write. -/
theorem witness_FairOpenWindowEnds : ∃ x : Execution, x.Fair ∧ (x.state 0).lstate = .opened :=
  ⟨closing (inState .opened) _ _ { Inputs.none with turns := [.openDone] }
    { Inputs.none with turns := [.txTick], writeAns := [.err] } { Inputs.none with turns := [.openDone] } rfl rfl rfl,
    closing_fair _ _ _ _ _ _ _ _ _ rfl, rfl⟩

/-- Running with a parse waiting, RX_PARSE, a failed write. -/
theorem witness_FairReceiverParses : ∃ x : Execution, x.Fair ∧ Turn.enabled .rxParse (x.state 0) = true :=
  ⟨closing { inState .running with rxbuf := [0xC8, 0x01] } _ _ { Inputs.none with turns := [.rxParse] }
    { Inputs.none with turns := [.txTick], writeAns := [.err] } { Inputs.none with turns := [.openDone] } rfl rfl rfl,
    closing_fair _ _ _ _ _ _ _ _ _ rfl, by decide +kernel⟩

theorem witness_PseudoCommandsExpand : 2 ≤ 2 ∧ 2 ≤ 12 ∧ 12 ≤ 12 := by decide

end Sys2Proof.Tests
end

section
/-! SUPPORT and PROOFS. What one turn can do, said once (`TurnEffect`), and the statements about the state that follow:
who may write each element of 10 R20, the invariants every step keeps, and the reachable states (spec 10_state.md). -/

namespace Sys2Proof

open Sys2Proof.Machine

/-! ### What one turn can do -/

/-- Every way a turn can go, by what enables it and by the environment's answer, with the state it leads to
(30 R84, 44 R201 to R213, 70 R270). -/
inductive TurnEffect (s : State) : Turn → State → Prop
  /-- The turn is not enabled (44 R213; log 2). -/
  | passed (t : Turn) (hoff : t.enabled s = false) : TurnEffect s t s
  /-- A packet that only answers: an error, a read or a pure command (20 R57, 60 R254; `command_cases` tells them apart). -/
  | answered (p : List Byte) (r : List Byte) (d : Nat)
      (hstart : ∀ baud rate, decode p = .ok (.startLink baud rate) → s.lstate ≠ .closed) :
      TurnEffect s (.command p) { s with responses := s.responses ++ [r], draws := d }
  /-- A control command in Open or Running (43 R173 to R177, 44 R208). -/
  | controlled (p : List Byte) (i : Instr) (s' : State) (hd : decode p = .ok i)
      (hl : s.lstate = .opened ∨ s.lstate = .running) (he : ControlEffect i s s') : TurnEffect s (.command p) s'
  /-- START_LINK in Closed whose open fails (44 R201). -/
  | openFailed (p : List Byte) (baud : Word) (rate : Half) (hd : decode p = .ok (.startLink baud rate))
      (hl : s.lstate = .closed) (ha : s.openAnswer = .err) :
      TurnEffect s (.command p)
        (openResult .err ((s.configure baud rate).emit (.tpOpen (s.configure baud rate).cfgBaud)).popOpen)
  /-- START_LINK in Closed whose open succeeds (44 R201). -/
  | opened (p : List Byte) (baud : Word) (rate : Half) (hd : decode p = .ok (.startLink baud rate))
      (hl : s.lstate = .closed) (ha : s.openAnswer = .ok) :
      TurnEffect s (.command p)
        (openResult .ok ((s.configure baud rate).emit (.tpOpen (s.configure baud rate).cfgBaud)).popOpen)
  /-- OPEN_DONE (44 R202). -/
  | openDone (hl : s.lstate = .opened) : TurnEffect s .openDone { s with lstate := .running }
  /-- TX_TICK whose write succeeds (44 R203). -/
  | sent (hl : s.lstate = .running) (ha : s.writeAnswer = .ok) :
      TurnEffect s .txTick (s.emit (.tpWrite (channelFrame s.ch))).popWrite
  /-- TX_TICK whose write fails (44 R203, R210). -/
  | sendFailed (hl : s.lstate = .running) (ha : s.writeAnswer = .err) :
      TurnEffect s .txTick (s.emit (.tpWrite (channelFrame s.ch))).popWrite.enterClosedOnError
  /-- RX_READ that returns bytes (44 R205). -/
  | received (xs : List Byte) (hl : s.lstate = .running) (ha : s.readAnswer = .bytes xs) :
      TurnEffect s .rxRead ((s.emit .tpRead).popRead.rxAppendAll xs)
  /-- RX_READ whose read fails (44 R205, R210). -/
  | readFailed (hl : s.lstate = .running) (ha : s.readAnswer = .err) :
      TurnEffect s .rxRead (s.emit .tpRead).popRead.enterClosedOnError
  /-- RX_PARSE (44 R207). -/
  | parsed (hl : s.lstate = .running) (hn : 0 < (parseStream s.rxbuf).1) :
      TurnEffect s .rxParse
        ({ s with rxbuf := s.rxbuf.drop (parseStream s.rxbuf).1 }.noteParse (parseStream s.rxbuf).2)
  /-- FINAL, whatever the answer to its write (44 R209). -/
  | finalSent (hl : s.lstate = .shuttingDown) :
      TurnEffect s .finalTx
        { (finalResult s.writeAnswer (s.emit (.tpWrite (channelFrame s.ch))).popWrite).emit .tpClose with
          rxbuf := [], lstate := .closed }
  /-- RESET (70 R270). -/
  | wasReset : TurnEffect s .reset s.resetStep

/-- What a host packet does is one of the effects of a command. -/
theorem turnEffect_of_command {p : List Byte} {s s' : State} (h : takeTurn (.command p) s = .next s') :
    TurnEffect s (.command p) s' := by
  by_cases hopen : ∃ baud rate, decode p = .ok (.startLink baud rate) ∧ s.lstate = .closed
  · obtain ⟨baud, rate, hd, hl⟩ := hopen
    rw [takeTurn_command, hd] at h
    simp only [exec_startLink, hl, if_true] at h
    cases h
    cases ha : s.openAnswer
    case ok => exact .opened p baud rate hd hl ha
    case err => exact .openFailed p baud rate hd hl ha
  · have hstart : ∀ baud rate, decode p = .ok (.startLink baud rate) → s.lstate ≠ .closed :=
      fun baud rate hd hl => hopen ⟨baud, rate, hd, hl⟩
    rcases command_cases h with ⟨st, -, rfl⟩ | ⟨i, r, d, -, -, rfl⟩ | ⟨i, hd, hl, he⟩ | ⟨baud, rate, hd, hl, -⟩
    · exact .answered p _ s.draws hstart
    · exact .answered p _ d hstart
    · exact .controlled p i s' hd hl he
    · exact absurd hl (hstart baud rate hd)

/-- What a turn does is one of the listed effects. -/
theorem turnEffect_of_takeTurn {t : Turn} {s s' : State} (h : takeTurn t s = .next s') : TurnEffect s t s' := by
  cases t with
  | command p => exact turnEffect_of_command h
  | openDone =>
    rw [takeTurn_openDone] at h
    cases h
    split
    · next hl => exact .openDone hl
    · next hl => exact .passed _ (by simp [Turn.enabled, hl])
  | txTick =>
    rw [takeTurn_txTick] at h
    cases h
    split
    · next hl =>
      cases ha : s.writeAnswer
      case ok => exact .sent hl ha
      case err => exact .sendFailed hl ha
    · next hl => exact .passed _ (by simp [Turn.enabled, hl])
  | rxRead =>
    rw [takeTurn_rxRead] at h
    cases h
    split
    · next hl =>
      cases ha : s.readAnswer
      case bytes xs => exact .received xs hl ha
      case err => exact .readFailed hl ha
    · next hl => exact .passed _ (by simp [Turn.enabled, hl])
  | rxParse =>
    rw [takeTurn_rxParse] at h
    cases h
    split
    · next hon => exact .parsed hon.1 hon.2
    · next hoff => exact .passed _ (by simpa [Turn.enabled] using hoff)
  | finalTx =>
    rw [takeTurn_finalTx] at h
    cases h
    split
    · next hl => exact .finalSent hl
    · next hl => exact .passed _ (by simp [Turn.enabled, hl])
  | reset =>
    cases h
    exact .wasReset

/-! ### Fields after the shared operations -/

/-- A control command writes only LSTATE, the channels, ARMED and its response. -/
theorem Machine.ControlEffect.frame {i : Instr} {s s' : State} (h : ControlEffect i s s') :
    ∃ ls ch a rs, s' = { s with lstate := ls, ch := ch, armed := a, responses := rs } := by
  rcases h with ⟨-, rfl⟩ | ⟨-, rfl⟩ | ⟨-, rfl⟩ | ⟨idx, v, -, -, -, rfl⟩ | ⟨vs, -, -, rfl⟩ | ⟨-, rfl⟩ <;>
    exact ⟨_, _, _, _, rfl⟩

/-- What a control command does to the lifecycle and the arm switch: STOP_LINK runs shutdown_sequence, ARM and DISARM set
CH[4] with ARMED, and the others write neither (10 R24, R25). -/
theorem Machine.ControlEffect.armSwitch {i : Instr} {s s' : State} (h : ControlEffect i s s') :
    (i = .stopLink ∧ s'.lstate = .shuttingDown ∧ s'.armed = false ∧ s'.ch[4] = 1024 ∧ s'.ch[2] = 0) ∨
    (s'.lstate = s.lstate ∧
      ((i = .arm ∧ s'.armed = true ∧ s'.ch[4] = 2047) ∨ (i = .disarm ∧ s'.armed = false ∧ s'.ch[4] = 1024) ∨
        (s'.armed = s.armed ∧ s'.ch[4] = s.ch[4]))) := by
  rcases h with ⟨rfl, rfl⟩ | ⟨rfl, rfl⟩ | ⟨rfl, rfl⟩ | ⟨idx, v, rfl, -, h4, rfl⟩ | ⟨vs, rfl, -, rfl⟩ | ⟨rfl, rfl⟩
  · exact .inr ⟨rfl, .inl ⟨rfl, rfl, by simp [State.arm_eq]⟩⟩
  · exact .inr ⟨rfl, .inr (.inl ⟨rfl, rfl, by simp [State.disarm_eq]⟩)⟩
  · exact .inr ⟨rfl, .inr (.inr ⟨rfl, by simp [State.resetControls_eq]⟩)⟩
  · exact .inr ⟨rfl, .inr (.inr ⟨rfl, by simp [h4]⟩)⟩
  · exact .inr ⟨rfl, .inr (.inr ⟨rfl, by simp⟩)⟩
  · exact .inl ⟨rfl, rfl, rfl, by simp [State.shutdownSequence_eq], by simp [State.shutdownSequence_eq]⟩

/-- What FINAL does with the answer: a failed write is latched in LAST_ERR and reported (44 R209). -/
theorem finalResult_eq (a : Ack) (s : State) :
    finalResult a s =
      { s with
        lastErr := if a = .err then true else s.lastErr
        trace := s.trace ++ if a = .err then [.linkError] else [] } := by
  cases a <;> simp [finalResult, State.emit]

/-- CRC_ERR_CNT counts the mismatches (10 R30). -/
theorem noteParse_crcErrCnt (s : State) (ev : ParseEvent) :
    (s.noteParse ev).crcErrCnt = if ev = .crcMismatch then s.crcErrCnt + 1 else s.crcErrCnt := by
  cases ev <;> rfl

/-- LEN_ERR_CNT counts the bad lengths (10 R31). -/
theorem noteParse_lenErrCnt (s : State) (ev : ParseEvent) :
    (s.noteParse ev).lenErrCnt = if ev = .lenInvalid then s.lenErrCnt + 1 else s.lenErrCnt := by
  cases ev <;> rfl

/-! ### Ways to establish the invariant -/

/-- An RXBUF within its capacity is all 10 R33 asks for past Open. -/
theorem RxBounded.of_pastOpen {s : State} (hcap : s.rxbuf.length ≤ Config.rxbufCap)
    (hl : s.lstate = .running ∨ s.lstate = .shuttingDown) : RxBounded s where
  within_cap := hcap
  empty_closed hc := by simp [hc] at hl
  empty_opened ho := by simp [ho] at hl

/-- An empty RXBUF meets 10 R33 in every lifecycle state. -/
theorem RxBounded.of_empty {s : State} (h : s.rxbuf = []) : RxBounded s where
  within_cap := by simp [h]
  empty_closed _ := h
  empty_opened _ := h

/-- 10 R33 reads LSTATE and RXBUF alone. -/
theorem RxBounded.congr {s s' : State} (h : RxBounded s) (hl : s'.lstate = s.lstate) (hrx : s'.rxbuf = s.rxbuf) :
    RxBounded s' where
  within_cap := by rw [hrx]; exact h.within_cap
  empty_closed hc := by rw [hrx]; exact h.empty_closed (hl ▸ hc)
  empty_opened ho := by rw [hrx]; exact h.empty_opened (hl ▸ ho)

/-- The failsafe values are safe in every lifecycle state. -/
theorem Inv.of_failsafe {s : State} (ha : s.armed = false) (h4 : s.ch[4] = 1024) (h2 : s.ch[2] = 0)
    (hrx : RxBounded s) : Inv s where
  arm := ⟨by simp [ha, h4], .inl h4⟩
  closed _ := ⟨ha, h2⟩
  shutdown _ := ⟨h2, h4, ha⟩
  rx := hrx

/-- In Open and Running the failsafe clauses say nothing. -/
theorem Inv.of_active {s : State} (hl : s.lstate = .opened ∨ s.lstate = .running) (harm : ArmConsistent s)
    (hrx : RxBounded s) : Inv s where
  arm := harm
  closed hc := by simp [hc] at hl
  shutdown hs := by simp [hs] at hl
  rx := hrx

/-- The arm clause reads ARMED and CH[4] alone. -/
theorem ArmConsistent.congr {s s' : State} (h : ArmConsistent s) (ha : s'.armed = s.armed)
    (h4 : s'.ch[4] = s.ch[4]) : ArmConsistent s' :=
  ⟨by rw [ha, h4]; exact h.armed_iff, by rw [h4]; exact h.two_valued⟩

/-- The invariant reads LSTATE, the channels, ARMED and RXBUF alone. -/
theorem Inv.congr {s s' : State} (h : Inv s) (hl : s'.lstate = s.lstate) (hch : s'.ch = s.ch)
    (ha : s'.armed = s.armed) (hrx : s'.rxbuf = s.rxbuf) : Inv s' where
  arm := h.arm.congr ha (by rw [hch])
  closed hc := by rw [ha, hch]; exact h.closed (hl ▸ hc)
  shutdown hs := by rw [ha, hch]; exact h.shutdown (hl ▸ hs)
  rx := h.rx.congr hl hrx

/-- Entering Closed on a TransportError is safe from every state (44 R210). -/
theorem inv_enterClosedOnError (s : State) : Inv s.enterClosedOnError := by
  rw [State.enterClosedOnError_eq]
  exact .of_failsafe rfl (by simp) (by simp) (.of_empty rfl)

/-- The session defaults with an empty RXBUF are safe (43 R179). -/
theorem Inv.of_defaults {s : State} (ha : s.armed = false) (hch : s.ch = defaultChannels) (hrx : s.rxbuf = []) :
    Inv s :=
  .of_failsafe ha (by simp [hch, defaultChannels_get]) (by simp [hch, defaultChannels_get]) (.of_empty hrx)

/-! ### The invariant -/

/-- An accepted control command keeps the invariant. -/
theorem Machine.ControlEffect.inv {i : Instr} {s s' : State} (he : ControlEffect i s s')
    (hl : s.lstate = .opened ∨ s.lstate = .running) (hi : Inv s) : Inv s' := by
  have hbuf : s'.rxbuf = s.rxbuf := by
    obtain ⟨ls, ch, a, rs, rfl⟩ := he.frame
    rfl
  rcases he.armSwitch with ⟨-, hstop, ha, h4, h2⟩ | ⟨hkeep, harm⟩
  · exact .of_failsafe ha h4 h2 (.of_pastOpen (hbuf ▸ hi.rx.within_cap) (.inr hstop))
  · refine .of_active (hkeep ▸ hl) ?_ (hi.rx.congr hkeep hbuf)
    rcases harm with ⟨-, ha, h4⟩ | ⟨-, ha, h4⟩ | ⟨ha, h4⟩
    · exact ⟨by simp [ha, h4], .inr h4⟩
    · exact ⟨by simp [ha, h4], .inl h4⟩
    · exact hi.arm.congr ha h4

/-- Every turn keeps the invariant. -/
theorem TurnEffect.inv {t : Turn} {s s' : State} (h : TurnEffect s t s') (hi : Inv s) : Inv s' := by
  cases h with
  | passed => exact hi
  | answered => exact hi.congr rfl rfl rfl rfl
  | controlled p i s' hd hl he => exact he.inv hl hi
  | openFailed =>
    rw [openResult_eq]
    exact hi.congr (by simp) (by simp) (by simp) (by simp)
  | opened => exact .of_defaults rfl rfl rfl
  | openDone => exact .of_active (.inr rfl) (hi.arm.congr rfl rfl) (.of_pastOpen hi.rx.within_cap (.inl rfl))
  | sent => exact hi.congr (by simp) (by simp) (by simp) (by simp)
  | sendFailed => exact inv_enterClosedOnError _
  | readFailed => exact inv_enterClosedOnError _
  | received xs hl =>
    rw [State.rxAppendAll_eq]
    refine .of_active (.inr (by simpa using hl)) (hi.arm.congr (by simp) (by simp))
      (.of_pastOpen ?_ (.inl (by simpa using hl)))
    have hcap := hi.rx.within_cap
    simp
    omega
  | parsed hl =>
    refine .of_active (.inr (by simpa using hl)) (hi.arm.congr (by simp) (by simp))
      (.of_pastOpen ?_ (.inl (by simpa using hl)))
    have hcap := hi.rx.within_cap
    simp
    omega
  | finalSent hl =>
    obtain ⟨h2, h4, ha⟩ := hi.shutdown hl
    rw [finalResult_eq]
    exact .of_failsafe (by simpa using ha) (by simpa using h4) (by simpa using h2) (.of_empty rfl)
  | wasReset =>
    rw [State.resetStep_eq]
    exact .of_defaults rfl rfl rfl

/-- Settles O54: a step is a turn on the state whose inputs have lost that turn, and every turn's effect keeps `Inv`. -/
theorem everyStepKeepsTheInvariant : Obligations.EveryStepKeepsTheInvariant := by
  intro s s' hi h
  have hpop : Inv s.popTurn := hi.congr (by simp) (by simp) (by simp) (by simp)
  exact (turnEffect_of_takeTurn h).inv hpop

/-- The reset state is safe (10 R41). -/
theorem inv_reset : Inv State.reset := .of_defaults rfl rfl rfl

/-- Every reachable state is safe. -/
theorem Reachable.inv {s : State} (h : Reachable s) : Inv s := by
  induction h with
  | reset => exact inv_reset
  | step s s' i _ hstep ih => exact everyStepKeepsTheInvariant (s.withInputs i) s' (ih.congr rfl rfl rfl rfl) hstep

/-- Settles O55, from the invariant of the reachable states. -/
theorem reachableStatesAreArmConsistentAndFailsafe : Obligations.ReachableStatesAreArmConsistentAndFailsafe :=
  fun _ h => ⟨h.inv.arm.armed_iff, h.inv.arm.two_valued, h.inv.closed⟩

/-- Settles O56, from the invariant of the reachable states; the capacity is 257 more than an unknown number. -/
theorem reachableReceiveBufferIsBounded : Obligations.ReachableReceiveBufferIsBounded :=
  ⟨Nat.le_add_left 257 Config.rxbufExtra, fun _ h => ⟨h.inv.rx.within_cap, h.inv.rx.empty_closed⟩⟩

/-! ### Who writes which element -/

/-- Settles O44, by the effects of a turn: each that may write CH[4] is listed, the others keep it. -/
theorem armSwitchChangesOnlyBySafetySteps : Obligations.ArmSwitchChangesOnlyBySafetySteps := by
  intro t s s' h hne
  cases turnEffect_of_takeTurn h with
  | passed => exact absurd rfl hne
  | answered => exact absurd rfl hne
  | controlled p i s' hd hl he =>
    rcases he.armSwitch with ⟨rfl, -⟩ | ⟨-, ⟨rfl, -⟩ | ⟨rfl, -⟩ | ⟨-, h4⟩⟩
    · exact .inr (.inr (.inl ⟨p, rfl, hd⟩))
    · exact .inl ⟨p, rfl, hd⟩
    · exact .inr (.inl ⟨p, rfl, hd⟩)
    · exact absurd h4 hne
  | openFailed => simp [openResult_eq] at hne
  | opened p baud rate hd hl ha => exact .inr (.inr (.inr (.inl ⟨p, baud, rate, rfl, hd, hl, ha⟩)))
  | openDone => exact absurd rfl hne
  | sent => simp at hne
  | sendFailed hl ha => exact .inr (.inr (.inr (.inr (.inl ⟨rfl, hl, ha⟩))))
  | received => simp [State.rxAppendAll_eq] at hne
  | readFailed hl ha => exact .inr (.inr (.inr (.inr (.inr (.inl ⟨rfl, hl, ha⟩)))))
  | parsed => simp at hne
  | finalSent => rw [finalResult_eq] at hne; simp at hne
  | wasReset => exact .inr (.inr (.inr (.inr (.inr (.inr rfl)))))

/-- Settles O45, by the effects of a turn. A packet that is no START_LINK in Closed keeps LAST_ERR. -/
theorem lastErrIsStickyUntilANewSession : Obligations.LastErrIsStickyUntilANewSession := by
  intro t s s' h
  cases turnEffect_of_takeTurn h with
  | passed t hoff =>
    cases t with
    | command => cases hoff
    | openDone => rfl
    | txTick => simp [show s.lstate ≠ .running by simpa [Turn.enabled] using hoff]
    | rxRead => simp [show s.lstate ≠ .running by simpa [Turn.enabled] using hoff]
    | rxParse => rfl
    | finalTx => simp [show s.lstate ≠ .shuttingDown by simpa [Turn.enabled] using hoff]
    | reset => cases hoff
  | answered p r d hstart =>
    dsimp only
    split
    · next baud rate hd => simp [hstart baud rate hd]
    · rfl
  | controlled p i s' hd hl he =>
    have hkeep : s'.lastErr = s.lastErr := by
      obtain ⟨ls, ch, a, rs, rfl⟩ := he.frame
      rfl
    have hopen : s.lstate ≠ .closed := by rintro hc; simp [hc] at hl
    dsimp only
    split <;> simp [hkeep, hopen]
  | openFailed p baud rate hd hl ha => simp [hd, hl, ha, openResult_eq]
  | opened p baud rate hd hl ha => simp [hd, hl, ha, openResult_eq]
  | openDone => rfl
  | sent hl ha => simp [ha]
  | sendFailed hl ha => simp [hl, ha, State.enterClosedOnError_eq]
  | received xs hl ha => simp [ha, State.rxAppendAll_eq]
  | readFailed hl ha => simp [hl, ha, State.enterClosedOnError_eq]
  | parsed => simp
  | finalSent hl => rw [finalResult_eq]; simp [hl]
  | wasReset => rw [State.resetStep_eq]

/-- Settles O46, by the effects of a turn: only the two outcomes of a START_LINK in Closed, and RESET, configure. -/
theorem configurationChangesOnlyByStartLinkAndReset : Obligations.ConfigurationChangesOnlyByStartLinkAndReset := by
  intro t s s' h hne
  cases turnEffect_of_takeTurn h with
  | passed => simp at hne
  | answered => simp at hne
  | controlled p i s' hd hl he =>
    obtain ⟨ls, ch, a, rs, rfl⟩ := he.frame
    simp at hne
  | openFailed p baud rate hd hl => exact .inl ⟨p, baud, rate, rfl, hd, hl⟩
  | opened p baud rate hd hl => exact .inl ⟨p, baud, rate, rfl, hd, hl⟩
  | openDone => simp at hne
  | sent => simp at hne
  | sendFailed => simp [State.enterClosedOnError_eq] at hne
  | received => simp [State.rxAppendAll_eq] at hne
  | readFailed => simp [State.enterClosedOnError_eq] at hne
  | parsed => simp at hne
  | finalSent => rw [finalResult_eq] at hne; simp at hne
  | wasReset => exact .inr rfl

/-- Settles O47, by the effects of a turn: only a received read and a parse, and RESET, write a counter. -/
theorem countersChangeOnlyByReceiverEventsAndReset : Obligations.CountersChangeOnlyByReceiverEventsAndReset := by
  intro t s s' h hr
  cases turnEffect_of_takeTurn h with
  | passed => simp
  | answered => simp
  | controlled p i s' hd hl he =>
    obtain ⟨ls, ch, a, rs, rfl⟩ := he.frame
    simp
  | openFailed => simp [openResult_eq]
  | opened => simp [openResult_eq]
  | openDone => simp
  | sent => simp
  | sendFailed => simp [State.enterClosedOnError_eq]
  | received xs hl ha => simp [State.rxAppendAll_eq, hl, ha]
  | readFailed => simp [State.enterClosedOnError_eq]
  | parsed hl => simp +contextual [noteParse_crcErrCnt, noteParse_lenErrCnt, hl]
  | finalSent => rw [finalResult_eq]; simp
  | wasReset => exact absurd rfl hr

/-! ### The environment's answers -/

/-- Settles O7: each request reads its own list of answers by its first element. -/
theorem listedAnswersAreUsedInOrder : Obligations.ListedAnswersAreUsedInOrder := by
  refine ⟨?_, ?_, ?_⟩ <;> intro s a as h
  · exact ⟨by rw [State.openAnswer, h], by rw [State.popOpen, h]⟩
  · exact ⟨by rw [State.writeAnswer, h], by rw [State.popWrite, h]⟩
  · exact ⟨by rw [State.readAnswer, h], by rw [State.popRead, h]⟩

end Sys2Proof
end

section
/-! SUPPORT and PROOFS. Reads and repeated commands, the frames a turn writes, and the frames the receiver emits
(spec 20_memory.md R57, R61, R64). -/

namespace Sys2Proof

open Sys2Proof.Machine

/-! ### Reads and repeated commands (20 R57) -/

/-- A read or pure command appends its response, may draw a free value, and writes nothing else. -/
theorem exec_of_readsOnly {i : Instr} (hi : Instr.ReadsOnly i) (s : State) :
    ∃ (r : List Byte) (d : Nat), exec i s = .next { s with responses := s.responses ++ [r], draws := d } := by
  cases i
  case getStatus => exact ⟨_, s.draws + 1, rfl⟩
  case pack vals => exact ⟨_, s.draws, exec_pack vals s⟩
  case buildFrame a t payload => exact ⟨_, s.draws, exec_buildFrame a t payload s⟩
  case getCounters | crc8 | unpack | parse => exact ⟨_, s.draws, rfl⟩
  case setChannel | setChannels | arm | disarm | resetControls | startLink | stopLink => exact hi.elim

/-- `g` answers a status to `s`, and the same status again to the state that leaves, which it only answers. -/
def AnswersTheSameAgain (g : State → Host.Outcome State Fault Refusal) (s : State) : Prop :=
  ∃ (u : State) (st : Status), u.responses = s.responses ∧ g s = .next (u.respondStatus st) ∧
    g (u.respondStatus st) = .next ((u.respondStatus st).respondStatus st)

/-- The response is what the first answer appended. -/
theorem AnswersTheSameAgain.repeated {g : State → Host.Outcome State Fault Refusal} {s t : State} {r : List Byte}
    (h : AnswersTheSameAgain g s) (ht : g s = .next t) (hr : t.responses = s.responses ++ [r]) :
    g t = .next { t with responses := t.responses ++ [r] } := by
  obtain ⟨u, st, hu, hfirst, hagain⟩ := h
  obtain rfl : t = u.respondStatus st := by simpa [hfirst] using ht.symm
  obtain rfl : [st.code] = r := by simpa [hu] using hr
  exact hagain

/-- An error that does not depend on the state is answered again. -/
theorem answersTheSameAgain_raise (e : Status) (s : State) : AnswersTheSameAgain (raise e) s := ⟨s, e, rfl, rfl, rfl⟩

/-- A write of the channel file whose repetition changes nothing, and that has no part in the lifecycle or the port. -/
structure IdempotentWrite (f : State → State) : Prop where
  idem : ∀ s, f (f s) = f s
  lstate : ∀ s, (f s).lstate = s.lstate
  responses : ∀ s, (f s).responses = s.responses
  respondStatus : ∀ s st, f (s.respondStatus st) = (f s).respondStatus st

/-- The write of one channel. -/
theorem idempotentWrite_setCh (k : Nat) (v : Chan) : IdempotentWrite fun s => s.setCh k v where
  idem s := by simp [State.setCh, Vector.setIfInBounds]
  lstate _ := rfl
  responses _ := rfl
  respondStatus _ _ := rfl

/-- `replace` (43 R172): each lane is clamped from the operands alone, and CH[4] is kept. -/
theorem idempotentWrite_replaceChannels (vals : List Half) : IdempotentWrite fun s => s.replaceChannels vals where
  idem s := by
    have hch : ∀ v : Vector Chan 16,
        ((v.mapIdx fun k c => if k = 4 then c else clamp (lane vals k)).mapIdx
          fun k c => if k = 4 then c else clamp (lane vals k)) =
        v.mapIdx fun k c => if k = 4 then c else clamp (lane vals k) := by
      intro v
      ext k hk
      by_cases h4 : k = 4 <;> simp [h4]
    simp [State.replaceChannels, hch]
  lstate _ := rfl
  responses _ := rfl
  respondStatus _ _ := rfl

/-- `arm()` (43 R175). -/
theorem idempotentWrite_arm : IdempotentWrite State.arm where
  idem s := by simp [State.arm_eq]
  lstate _ := rfl
  responses _ := rfl
  respondStatus _ _ := rfl

/-- `disarm()` (43 R176). -/
theorem idempotentWrite_disarm : IdempotentWrite State.disarm where
  idem s := by simp [State.disarm_eq]
  lstate _ := rfl
  responses _ := rfl
  respondStatus _ _ := rfl

/-- `reset_controls()` (43 R177): the three channels it writes are different ones. -/
theorem idempotentWrite_resetControls : IdempotentWrite State.resetControls where
  idem s := by
    have hch : ∀ v : Vector Chan 16,
        ((((((v.set 0 1024).set 1 1024).set 3 1024).set 0 1024).set 1 1024).set 3 1024) =
        ((v.set 0 1024).set 1 1024).set 3 1024 := by
      intro v
      ext k hk
      simp only [Vector.getElem_set]
      grind
    simp only [State.resetControls_eq, hch]
  lstate _ := rfl
  responses _ := rfl
  respondStatus _ _ := rfl

/-- A control command that makes an idempotent write answers the same again: the write leaves LSTATE, which alone decides
between OK and NOT_CONNECTED. -/
theorem IdempotentWrite.answersTheSameAgain {f : State → State} (hf : IdempotentWrite f) (s : State) :
    AnswersTheSameAgain (fun x => whenControllable x (f x)) s := by
  by_cases hl : s.lstate = .opened ∨ s.lstate = .running
  · exact ⟨f s, .ok, hf.responses s, by simp [whenControllable_eq, hl],
      by simp [whenControllable_eq, hf.lstate, hf.respondStatus, hf.idem, hl]⟩
  · exact ⟨s, .notConnected, rfl, by simp [whenControllable_eq, hl], by simp [whenControllable_eq, hl]⟩

/-- SET_CHANNEL answers the same again: its operand checks do not read the state. -/
theorem setChannel_answersTheSameAgain (idx : Byte) (val : Half) (s : State) :
    AnswersTheSameAgain (exec (.setChannel idx val)) s := by
  by_cases hbig : 15 < idx.toNat
  · have hg : exec (.setChannel idx val) = raise .badOperand := by funext x; simp [exec, execSetChannel, hbig]
    exact hg ▸ answersTheSameAgain_raise _ s
  by_cases h4 : idx.toNat = 4
  · have hg : exec (.setChannel idx val) = raise .reservedChannel := by funext x; simp [exec, execSetChannel, h4]
    exact hg ▸ answersTheSameAgain_raise _ s
  · have hg : exec (.setChannel idx val) = fun x => whenControllable x (x.setCh idx.toNat (clamp val)) := by
      funext x; simp [exec, execSetChannel, hbig, h4]
    exact hg ▸ (idempotentWrite_setCh _ _).answersTheSameAgain s

/-- SET_CHANNELS answers the same again: its count check does not read the state. -/
theorem setChannels_answersTheSameAgain (vals : List Half) (s : State) :
    AnswersTheSameAgain (exec (.setChannels vals)) s := by
  by_cases hlen : vals.length = 16
  · have hg : exec (.setChannels vals) = fun x => whenControllable x (x.replaceChannels vals) := by
      funext x; simp [exec, execSetChannels, hlen]
    exact hg ▸ (idempotentWrite_replaceChannels vals).answersTheSameAgain s
  · have hg : exec (.setChannels vals) = raise .invalidChannelCount := by
      funext x; simp [exec, execSetChannels, hlen]
    exact hg ▸ answersTheSameAgain_raise _ s

/-- A START_LINK that changed LSTATE is refused when repeated: it ran in Closed and left it (44 R201). -/
theorem startLink_repeated {baud : Word} {rate : Half} {s t : State} (h : exec (.startLink baud rate) s = .next t)
    (hne : t.lstate ≠ s.lstate) : exec (.startLink baud rate) t = .next (t.respondStatus .badState) := by
  have ht : t.lstate ≠ .closed := by
    by_cases hl : s.lstate = .closed
    · exact hl ▸ hne
    · rw [exec_startLink, if_neg hl] at h
      cases h
      exact absurd rfl hne
  rw [exec_startLink, if_neg ht]

/-- A STOP_LINK that changed LSTATE led to ShuttingDown (44 R208). -/
theorem stopLink_lstate {s t : State} (h : exec .stopLink s = .next t) (hne : t.lstate ≠ s.lstate) :
    t.lstate = .shuttingDown := by
  rw [exec_stopLink] at h
  cases h
  split
  · next hl => simp [hl] at hne
  split
  · next hs => exact hs
  · rfl

/-- Settles O31: reads only answer, control commands make idempotent writes, and the link commands check LSTATE. -/
theorem readsPureCommandsAndIdempotency : Obligations.ReadsPureCommandsAndIdempotency := by
  refine ⟨?_, ?_, fun _ _ _ _ => startLink_repeated, ?_⟩
  · intro i s t hi h
    have hread : Instr.ReadsOnly i := by
      rcases hi with rfl | rfl | ⟨_, rfl⟩ | ⟨_, rfl⟩ | ⟨_, rfl⟩ | ⟨_, _, _, rfl⟩ | ⟨_, rfl⟩ <;> trivial
    obtain ⟨r, d, hexec⟩ := exec_of_readsOnly hread s
    exact ⟨r, d, by simpa [hexec] using h.symm⟩
  · intro i s t r hi h hr
    have hagain : AnswersTheSameAgain (exec i) s := by
      rcases hi with rfl | rfl | rfl | ⟨idx, v, rfl⟩ | ⟨vs, rfl⟩
      · exact idempotentWrite_arm.answersTheSameAgain s
      · exact idempotentWrite_disarm.answersTheSameAgain s
      · exact idempotentWrite_resetControls.answersTheSameAgain s
      · exact setChannel_answersTheSameAgain idx v s
      · exact setChannels_answersTheSameAgain vs s
    exact hagain.repeated h hr
  · intro s t h hne
    have hsd := stopLink_lstate h hne
    have hopen : t.lstate ≠ .closed := by simp [hsd]
    refine ⟨?_, ?_⟩
    · rw [exec_stopLink, if_neg hopen, if_pos hsd]
      rfl
    · rw [exec_stopLink, if_pos rfl]
      rfl

/-! ### The frames a turn writes (20 R61) -/

/-- The frame of a snapshot, with the address and the type written out (44 R204). -/
theorem channelFrame_eq (snap : Vector Chan 16) : channelFrame snap = buildFrame 0xC8 0x16 (pack snap).toList := rfl

/-- The events the receiver emits for a parse event (44 R207). -/
def Machine.ParseEvent.emitted : ParseEvent → List Event
  | .needMore => []
  | .frame f => [.frameOut f]
  | .crcMismatch => []
  | .lenInvalid => []

/-- Only a parsed frame is emitted (44 R207). -/
theorem noteParse_trace (s : State) (ev : ParseEvent) : (s.noteParse ev).trace = s.trace ++ ev.emitted := by
  cases ev <;> simp [State.noteParse, ParseEvent.emitted]

/-- Settles O49, by the effects of a turn: the events each appends, of which only TX_TICK's and FINAL's hold a frame. -/
theorem framesAreSentOnlyByTxTickAndFinal : Obligations.FramesAreSentOnlyByTxTickAndFinal := by
  intro t s s' h
  cases turnEffect_of_takeTurn h with
  | passed t hoff =>
    have hidle : ¬ ((t = .txTick ∧ s.lstate = .running) ∨ (t = .finalTx ∧ s.lstate = .shuttingDown)) := by
      rintro (⟨rfl, hl⟩ | ⟨rfl, hl⟩) <;> simp [Turn.enabled, hl] at hoff
    exact ⟨[], by simp, by simp [hidle]⟩
  | answered => exact ⟨[], by simp, by simp⟩
  | controlled p i s' hd hl he =>
    obtain ⟨ls, ch, a, rs, rfl⟩ := he.frame
    exact ⟨[], by simp, by simp⟩
  | openFailed p baud rate => exact ⟨[.tpOpen (s.configure baud rate).cfgBaud], by simp [openResult_eq], by simp⟩
  | opened p baud rate => exact ⟨[.tpOpen (s.configure baud rate).cfgBaud], by simp [openResult_eq], by simp⟩
  | openDone => exact ⟨[], by simp, by simp⟩
  | sent hl => exact ⟨[.tpWrite (channelFrame s.ch)], by simp, by simp [channelFrame_eq, hl]⟩
  | sendFailed hl =>
    exact ⟨[.tpWrite (channelFrame s.ch), .linkError, .tpClose], by simp [State.enterClosedOnError_eq],
      by simp [channelFrame_eq, hl]⟩
  | received => exact ⟨[.tpRead], by simp [State.rxAppendAll_eq], by simp⟩
  | readFailed => exact ⟨[.tpRead, .linkError, .tpClose], by simp [State.enterClosedOnError_eq], by simp⟩
  | parsed =>
    refine ⟨(parseStream s.rxbuf).2.emitted, noteParse_trace _ _, ?_⟩
    cases (parseStream s.rxbuf).2 <;> simp [ParseEvent.emitted]
  | finalSent hl =>
    rw [finalResult_eq]
    refine ⟨.tpWrite (channelFrame s.ch) :: ((if s.writeAnswer = .err then [.linkError] else []) ++ [.tpClose]),
      by simp, ?_⟩
    by_cases ha : s.writeAnswer = .err <;> simp [channelFrame_eq, ha, hl]
  | wasReset =>
    rw [State.resetStep_eq]
    by_cases hl : s.lstate = .closed
    · exact ⟨[], by simp [hl], by simp⟩
    · exact ⟨[.tpClose], by simp [hl], by simp⟩

/-! ### The frames the receiver emits (20 R64) -/

/-- A built frame is parsed back, whatever follows it (42 R152). -/
theorem parseStream_buildFrame (a t : Byte) (p rest : List Byte) (hp : p.length ≤ 253) :
    parseStream (buildFrame a t p ++ rest) = (p.length + 4, .frame { addr := a, frameType := t, payload := p }) := by
  have hlen := toNat_ofNat_byte (p.length + 2) (by omega)
  have hbuf : buildFrame a t p ++ rest =
      a :: BitVec.ofNat 8 (p.length + 2) :: t :: (p ++ crc8 (t :: p) :: rest) := by simp [buildFrame]
  rw [hbuf, parseStream_whole a _ t _ p rest hlen, if_pos rfl, hlen]

/-- A built frame has four bytes around its payload (42 R141). -/
@[simp] theorem buildFrame_length (a t : Byte) (p : List Byte) : (buildFrame a t p).length = p.length + 4 := by
  simp [buildFrame]

/-- An RX_PARSE emits the built frame at the head of RXBUF and leaves what follows it (44 R207). -/
theorem takeTurn_rxParse_buildFrame {f : Frame} {rest : List Byte} {s : State} (hf : f.payload.length ≤ 253)
    (hl : s.lstate = .running) (hbuf : s.rxbuf = buildFrame f.addr f.frameType f.payload ++ rest) :
    takeTurn .rxParse s = .next { s with rxbuf := rest, trace := s.trace ++ [.frameOut f] } := by
  have hparse : parseStream s.rxbuf = (f.payload.length + 4, .frame f) :=
    hbuf ▸ parseStream_buildFrame f.addr f.frameType f.payload rest hf
  have hdrop : s.rxbuf.drop (f.payload.length + 4) = rest := by
    rw [hbuf]
    exact List.drop_left' (buildFrame_length ..)
  rw [takeTurn_rxParse, hparse, if_pos ⟨hl, by omega⟩, hdrop]
  rfl

/-- Settles O52, by induction on the frames waiting in RXBUF. -/
theorem receiverEmitsFramesInOrder : Obligations.ReceiverEmitsFramesInOrder := by
  intro fs
  induction fs with
  | nil =>
    intro s _ _ hbuf
    simp only [List.flatMap_nil] at hbuf
    simp [runTurns, ← hbuf]
  | cons f fs ih =>
    intro s hfs hl hbuf
    obtain ⟨hf, hrest⟩ := List.forall_mem_cons.mp hfs
    rw [List.flatMap_cons] at hbuf
    rw [List.length_cons, List.replicate_succ, runTurns, takeTurn_rxParse_buildFrame hf hl hbuf]
    have hrun := ih { s with
      rxbuf := fs.flatMap fun f => buildFrame f.addr f.frameType f.payload
      trace := s.trace ++ [.frameOut f] } hrest hl rfl
    simpa using hrun

end Sys2Proof
end

section
/-! SUPPORT and PROOFS. Packets and commands: the decoder and the encoder undo each other, what a rejected packet answers,
the response of each turn, FLAGS and the pseudo-commands (spec 30_encoding.md). -/

namespace Sys2Proof

open Sys2Proof.Machine

/-! ### The decoder's checks (30 R84) -/

/-- The accepted length of an opcode covers its count field, so the second length check of 30 R84 implies the first. -/
theorem Opcode.headerLength_le_packetLength (op : Opcode) (p : List Byte) : op.headerLength ≤ op.packetLength p := by
  cases op <;> simp [Opcode.headerLength, Opcode.packetLength]

/-- A packet of a listed opcode is accepted exactly at its opcode's length. -/
theorem decode_opcode (op : Opcode) (rest : List Byte) :
    decode (op.byte :: rest) =
      if (op.byte :: rest).length = op.packetLength (op.byte :: rest) then .ok (op.operands (op.byte :: rest))
      else .error .badLength := by
  have hle := op.headerLength_le_packetLength (op.byte :: rest)
  rw [decode, Opcode.ofByte_byte]
  dsimp only
  by_cases hlen : (op.byte :: rest).length = op.packetLength (op.byte :: rest)
  · rw [if_neg (by omega), if_neg (by simpa using hlen), if_pos hlen]
  · rw [if_pos hlen, if_neg hlen, ite_self]

/-- An accepted packet is an opcode of 30 R83 with operands of its length. -/
theorem decode_eq_ok {p : List Byte} {i : Instr} (h : decode p = .ok i) :
    ∃ (op : Opcode) (rest : List Byte), p = op.byte :: rest ∧ p.length = op.packetLength p ∧ i = op.operands p := by
  cases p with
  | nil => cases h
  | cons b rest =>
    cases hop : Opcode.ofByte b with
    | none => simp [decode, hop] at h
    | some op =>
      obtain rfl := Opcode.byte_of_ofByte hop
      rw [decode_opcode] at h
      split at h
      · next hlen => exact ⟨op, rest, rfl, hlen, by simpa using h.symm⟩
      · cases h

/-! ### Encode, then decode -/

/-- The row of 30 R83 a command stands in. -/
def Instr.opcode : Instr → Opcode
  | .getStatus => .getStatus
  | .getCounters => .getCounters
  | .setChannel _ _ => .setChannel
  | .setChannels _ => .setChannels
  | .arm => .arm
  | .disarm => .disarm
  | .resetControls => .resetControls
  | .startLink _ _ => .startLink
  | .stopLink => .stopLink
  | .crc8 _ => .crc8
  | .pack _ => .pack
  | .unpack _ => .unpack
  | .buildFrame _ _ _ => .buildFrame
  | .parse _ => .parse

/-- The packet of a command starts with its opcode's byte. -/
theorem encode_eq_cons (i : Instr) : encode i = i.opcode.byte :: (encode i).tail := by cases i <;> rfl

/-- The packet of every well-formed command has its opcode's length. -/
theorem encodedLength (i : Instr) : Laws.EncodedLength.Statement i := by
  cases i with
  | getStatus => exact Laws.EncodedLength.getStatus
  | getCounters => exact Laws.EncodedLength.getCounters
  | setChannel idx val => exact Laws.EncodedLength.setChannel idx val
  | setChannels vals => exact Laws.EncodedLength.setChannels vals
  | arm => exact Laws.EncodedLength.arm
  | disarm => exact Laws.EncodedLength.disarm
  | resetControls => exact Laws.EncodedLength.resetControls
  | startLink baud rate => exact Laws.EncodedLength.startLink baud rate
  | stopLink => exact Laws.EncodedLength.stopLink
  | crc8 data => exact Laws.EncodedLength.crc8 data
  | pack vals => exact Laws.EncodedLength.pack vals
  | unpack payload => exact Laws.EncodedLength.unpack payload
  | buildFrame addr frameType payload => exact Laws.EncodedLength.buildFrame addr frameType payload
  | parse buf => exact Laws.EncodedLength.parse buf

/-- That length, with the opcode named. -/
theorem encode_length {i : Instr} (h : i.WellFormed) : (encode i).length = i.opcode.packetLength (encode i) := by
  obtain ⟨op, hop, hlen⟩ := encodedLength i h
  rw [encode_eq_cons, byteAt, List.getD_cons_zero, Opcode.ofByte_byte] at hop
  rwa [← Option.some.inj hop] at hlen

/-- The bytes of UNPACK's operand, read one by one behind the opcode. -/
theorem ofFn_byteAt_toList (b : Byte) (payload : Vector Byte 22) :
    (Vector.ofFn fun j : Fin 22 => byteAt (b :: payload.toList) (j.val + 1)) = payload := by
  ext k hk
  simp [byteAt]

/-- The operands stand in a command's packet where the decoder reads them. -/
theorem operands_encode (i : Instr) : i.opcode.operands (encode i) = i := by
  cases i with
  | getStatus | getCounters | arm | disarm | resetControls | stopLink => rfl
  | crc8 | buildFrame | parse => rfl
  | setChannel idx val => exact congrArg (Instr.setChannel idx) (u16_u16le val)
  | startLink baud rate => exact congrArg₂ Instr.startLink (u32_u32le baud) (u16_u16le rate)
  | setChannels vals => exact congrArg Instr.setChannels (halves_flatMap_u16le vals)
  | pack vals => exact congrArg Instr.pack (halves_flatMap_u16le vals)
  | unpack payload => exact congrArg Instr.unpack (ofFn_byteAt_toList 0x32 payload)

/-- Settles O1: the packet passes the decoder's checks, which then reads every operand where the encoder put it. -/
theorem decodeReadsBackEveryEncodedCommand : Obligations.DecodeReadsBackEveryEncodedCommand := by
  intro i hi
  have hlen := encode_length hi
  rw [encode_eq_cons] at hlen ⊢
  rw [decode_opcode, if_pos hlen, ← encode_eq_cons, operands_encode]

/-- Settles O4: each packet is the encoding of the command it stands for. -/
theorem tableWordsDecode : Obligations.TableWordsDecode :=
  have h := decodeReadsBackEveryEncodedCommand
  ⟨h .getStatus rfl, h (.setChannel 2 1500) rfl, h (.startLink 115200 100) rfl, h (.crc8 [0x34, 0x12]) rfl,
    h (.buildFrame 0xEE 0x21 [0x01, 0x00, 0x00]) rfl, h (.parse [0xC8, 0x00]) rfl⟩

/-! ### Decode, then encode -/

/-- A count byte is the byte of the count it holds. -/
theorem ofNat_count {n : Nat} {b : Byte} (h : n = b.toNat) : n ≤ 255 ∧ BitVec.ofNat 8 n = b := by
  have hb := b.isLt
  exact ⟨by omega, by simp [h]⟩

/-- 22 bytes behind an opcode are UNPACK's operand. -/
theorem toList_ofFn_byteAt {rest : List Byte} (b : Byte) (h : rest.length = 22) :
    (Vector.ofFn fun j : Fin 22 => byteAt (b :: rest) (j.val + 1)).toList = rest := by
  obtain ⟨v, rfl⟩ : ∃ v : Vector Byte 22, v.toList = rest := ⟨⟨rest.toArray, by simpa using h⟩, rfl⟩
  rw [ofFn_byteAt_toList]

/-- The operands of a packet of its opcode's length are a well-formed command whose packet it is. -/
theorem encode_operands (op : Opcode) (rest : List Byte)
    (h : (op.byte :: rest).length = op.packetLength (op.byte :: rest)) :
    (op.operands (op.byte :: rest)).WellFormed ∧ encode (op.operands (op.byte :: rest)) = op.byte :: rest := by
  cases op with
  | getStatus | getCounters | arm | disarm | resetControls | stopLink =>
    obtain rfl : rest = [] := by simpa [Opcode.packetLength] using h
    exact ⟨rfl, rfl⟩
  | setChannel =>
    obtain ⟨idx, v0, v1, rfl⟩ := List.length_eq_three.mp (show rest.length = 3 by simpa [Opcode.packetLength] using h)
    exact ⟨rfl, by simp [Opcode.operands, encode, byteAt, Opcode.byte]⟩
  | startLink =>
    match rest, h with
    | [b0, b1, b2, b3, r0, r1], _ => exact ⟨rfl, by simp [Opcode.operands, encode, byteAt, Opcode.byte]⟩
  | unpack =>
    have hlen : rest.length = 22 := by simpa [Opcode.packetLength] using h
    exact ⟨rfl, congrArg (List.cons 0x32) (toList_ofFn_byteAt 0x32 hlen)⟩
  | setChannels | pack =>
    match rest, h with
    | [], h => simp [Opcode.packetLength] at h; omega
    | n :: data, h =>
      obtain ⟨hcount, hbytes⟩ := halves_of_length n.toNat data (by simp [Opcode.packetLength, byteAt] at h; omega)
      obtain ⟨hle, hn⟩ := ofNat_count hcount
      exact ⟨decide_eq_true hle, by simp [Opcode.operands, encode, Opcode.byte, hn, hbytes]⟩
  | crc8 =>
    match rest, h with
    | [], h => simp [Opcode.packetLength] at h; omega
    | n :: data, h =>
      obtain ⟨hle, hn⟩ := ofNat_count (n := data.length) (b := n) (by simp [Opcode.packetLength, byteAt] at h; omega)
      exact ⟨decide_eq_true hle, by simp [Opcode.operands, encode, Opcode.byte, hn]⟩
  | buildFrame =>
    match rest, h with
    | [], h | [_], h | [_, _], h => simp [Opcode.packetLength] at h; omega
    | a :: t :: n :: payload, h =>
      obtain ⟨hle, hn⟩ :=
        ofNat_count (n := payload.length) (b := n) (by simp [Opcode.packetLength, byteAt] at h; omega)
      exact ⟨decide_eq_true hle, by simp [Opcode.operands, encode, byteAt, Opcode.byte, hn]⟩
  | parse =>
    match rest, h with
    | [], h | [_], h => simp [Opcode.packetLength] at h; omega
    | n0 :: n1 :: buf, h =>
      have hcount : buf.length = (u16 n0 n1).toNat := by simp [Opcode.packetLength, byteAt] at h; omega
      have hlt := (u16 n0 n1).isLt
      exact ⟨decide_eq_true (p := buf.length ≤ 65535) (by omega), by simp [Opcode.operands, encode, Opcode.byte, hcount]⟩

/-- Settles O2: an accepted packet has its opcode's length, and then no bit of it is dropped. -/
theorem acceptedPacketIsItsCommandsEncoding : Obligations.AcceptedPacketIsItsCommandsEncoding := by
  intro p i h
  obtain ⟨op, rest, rfl, hlen, rfl⟩ := decode_eq_ok h
  exact encode_operands op rest hlen

/-! ### Rejected packets (30 R84, R88) -/

/-- A rejected packet answers its error's status byte and changes nothing else (60 R247, R248). -/
theorem takeTurn_command_rejected {p : List Byte} {e : DecodeError} (h : decode p = .error e) (s : State) :
    takeTurn (.command p) s = .next { s with responses := s.responses ++ [[(errorStatus e).code]] } := by
  rw [takeTurn_command, h]
  rfl

/-- A byte outside the 14 opcodes of 30 R83 is illegal (30 R88). -/
theorem decode_unlisted {b : Byte} (rest : List Byte)
    (hb : b ∉ ([0x01, 0x02, 0x10, 0x11, 0x12, 0x13, 0x14, 0x20, 0x21, 0x30, 0x31, 0x32, 0x33, 0x34] : List Byte)) :
    decode (b :: rest) = .error .illegalCommand := by
  cases hop : Opcode.ofByte b with
  | none => simp [decode, hop]
  | some op =>
    obtain rfl := Opcode.byte_of_ofByte hop
    exact absurd (by cases op <;> decide) hb

/-- A packet of a listed opcode that has not its opcode's length answers BAD_LENGTH. -/
theorem takeTurn_command_wrongLength (op : Opcode) (rest : List Byte) (s : State)
    (h : (op.byte :: rest).length ≠ op.packetLength (op.byte :: rest)) :
    takeTurn (.command (op.byte :: rest)) s = .next { s with responses := s.responses ++ [[0x05]] } :=
  takeTurn_command_rejected (by rw [decode_opcode, if_neg h]) s

/-- Settles O3, by the decoder's checks; each listed length is `Opcode.packetLength`. -/
theorem rejectedPacketsAnswerAndChangeNothing : Obligations.RejectedPacketsAnswerAndChangeNothing := by
  refine ⟨takeTurn_command_rejected (p := []) (e := .badLength) rfl,
    fun b rest s hb => takeTurn_command_rejected (decode_unlisted rest hb) s, ?_⟩
  intro b rest s p hp
  suffices h : ∃ op : Opcode, b = op.byte ∧ p.length ≠ op.packetLength p by
    obtain ⟨op, rfl, hlen⟩ := h
    exact takeTurn_command_wrongLength op rest s hlen
  rcases hp with ⟨hb, h⟩ | ⟨rfl, h⟩ | ⟨rfl, h⟩ | ⟨rfl, h⟩ | ⟨hb, h⟩ | ⟨rfl, h⟩ | ⟨rfl, h⟩ | ⟨rfl, h⟩
  · simp only [List.mem_cons, List.not_mem_nil, or_false] at hb
    rcases hb with rfl | rfl | rfl | rfl | rfl | rfl
    · exact ⟨.getStatus, rfl, h⟩
    · exact ⟨.getCounters, rfl, h⟩
    · exact ⟨.arm, rfl, h⟩
    · exact ⟨.disarm, rfl, h⟩
    · exact ⟨.resetControls, rfl, h⟩
    · exact ⟨.stopLink, rfl, h⟩
  · exact ⟨.setChannel, rfl, h⟩
  · exact ⟨.startLink, rfl, h⟩
  · exact ⟨.unpack, rfl, h⟩
  · have hlen : p.length ≠ 2 + 2 * (byteAt p 1).toNat := by omega
    simp only [List.mem_cons, List.not_mem_nil, or_false] at hb
    rcases hb with rfl | rfl
    · exact ⟨.setChannels, rfl, hlen⟩
    · exact ⟨.pack, rfl, hlen⟩
  · exact ⟨.crc8, rfl, by simp only [Opcode.packetLength]; omega⟩
  · exact ⟨.buildFrame, rfl, by simp only [Opcode.packetLength]; omega⟩
  · exact ⟨.parse, rfl, by simp only [Opcode.packetLength, u16_toNat]; omega⟩

/-! ### Responses (30 R85) -/

/-- The status bytes end at 0x08 (60 R240). -/
theorem Machine.Status.code_toNat_le (st : Status) : st.code.toNat ≤ 8 := by cases st <;> decide

/-- An accepted control command answers OK. -/
theorem Machine.ControlEffect.responses {i : Instr} {s s' : State} (h : ControlEffect i s s') :
    s'.responses = s.responses ++ [[Status.ok.code]] := by
  rcases h with ⟨-, rfl⟩ | ⟨-, rfl⟩ | ⟨-, rfl⟩ | ⟨idx, v, -, -, -, rfl⟩ | ⟨vs, -, -, rfl⟩ | ⟨-, rfl⟩ <;> rfl

/-- The open's outcome is answered by a status alone (44 R201). -/
theorem openResult_responses (a : Ack) (s : State) :
    ∃ st : Status, (openResult a s).responses = s.responses ++ [[st.code]] := by
  cases a
  case ok => exact ⟨.ok, rfl⟩
  case err => exact ⟨.transportError, rfl⟩

/-- A host packet is answered by a status, with result bytes only behind OK. -/
theorem command_responses {p : List Byte} {s s' : State} (h : takeTurn (.command p) s = .next s') :
    ∃ (st : Status) (result : List Byte),
      s'.responses = s.responses ++ [st.code :: result] ∧ (st ≠ .ok → result = []) := by
  rcases command_cases h with ⟨st, -, rfl⟩ | ⟨i, r, d, -, -, rfl⟩ | ⟨i, -, -, he⟩ | ⟨baud, rate, -, -, rfl⟩
  · exact ⟨st, [], rfl, fun _ => rfl⟩
  · exact ⟨.ok, r, rfl, fun hne => absurd rfl hne⟩
  · exact ⟨.ok, [], he.responses, fun _ => rfl⟩
  · obtain ⟨st, hst⟩ := openResult_responses s.openAnswer
      ((s.configure baud rate).emit (.tpOpen (s.configure baud rate).cfgBaud)).popOpen
    exact ⟨st, [], by simpa using hst, fun _ => rfl⟩

/-- Settles O11, from the response of a host packet; 0x00 is OK's byte. -/
theorem responsesStartWithAStatusByte : Obligations.ResponsesStartWithAStatusByte := by
  intro p s s' h
  obtain ⟨st, result, hresp, herr⟩ := command_responses h
  refine ⟨st.code, result, hresp, st.code_toNat_le, fun hne => herr ?_⟩
  rintro rfl
  exact hne rfl

/-- Settles O10, by the effects of a turn: a host packet's response is `command_responses`, and no other effect responds. -/
theorem eachCommandGetsOneResponse : Obligations.EachCommandGetsOneResponse := by
  intro t s s' h
  cases t with
  | command p =>
    obtain ⟨st, result, hresp, -⟩ := command_responses h
    exact ⟨_, hresp⟩
  | openDone => cases turnEffect_of_takeTurn h <;> rfl
  | txTick => cases turnEffect_of_takeTurn h <;> simp [State.enterClosedOnError_eq]
  | rxRead => cases turnEffect_of_takeTurn h <;> simp [State.enterClosedOnError_eq, State.rxAppendAll_eq]
  | rxParse => cases turnEffect_of_takeTurn h <;> simp
  | finalTx => cases turnEffect_of_takeTurn h <;> simp [finalResult_eq]
  | reset => cases turnEffect_of_takeTurn h <;> simp [State.resetStep_eq]

/-! ### The step, FLAGS and the pseudo-commands -/

/-- Settles O6: the step takes the listed turn, and the packet's turn runs what it decodes to. -/
theorem stepRunsTheDecodedCommand : Obligations.StepRunsTheDecodedCommand := by
  intro s p ts i hturns hd
  rw [step, State.nextTurn, State.popTurn, hturns]
  dsimp only
  rw [takeTurn_command, hd]

/-- "Connected" is every lifecycle state but Closed (10 R40). -/
theorem Machine.State.connected_eq (s : State) : s.connected = decide (s.lstate ≠ .closed) := by
  unfold State.connected
  cases s.lstate <;> rfl

/-- Settles O35, from the bits of `flagsByte`. -/
theorem flagsByteLayout : Obligations.FlagsByteLayout := by
  intro s
  obtain ⟨harmed, hconn, hls, herr, hzero⟩ := flagsByte_bits s.armed s.connected s.lastErr s.lstate
  exact ⟨harmed, hconn.trans s.connected_eq, hls.trans (by cases s.lstate <;> rfl), herr, hzero⟩

/-- Settles O60: `n + 3` is the channel of SET_AUX `n`, and one byte holds it. -/
theorem pseudoCommandsExpand : Obligations.PseudoCommandsExpand := by
  refine ⟨fun v => ⟨rfl, rfl, rfl, rfl⟩, ?_, fun v => rfl, rfl, rfl⟩
  intro n v h2 h12
  exact ⟨BitVec.ofNat 8 (n + 3), toNat_ofNat_byte (n + 3) (by omega), by rw [setAux, if_pos ⟨h2, h12⟩]⟩

end Sys2Proof
end

section
/-! SUPPORT and PROOFS. The checksum: the bit loop, its table form and its linearity, the unit's use of CRCR, and the command
CRC8 (spec 40_crc8_dvb_s2.md R100 to R106). -/

namespace Sys2Proof

open Sys2Proof.Machine

/-! ### The bit loop and the table form (40 R100 to R102) -/

/-- `n` division steps are one step iterated. -/
theorem Machine.crcShifts_eq_iterate (n : Nat) (c : Byte) : crcShifts n c = crcShift^[n] c := by
  induction n generalizing c with
  | zero => rfl
  | succ n ih => rw [crcShifts, ih, Function.iterate_succ_apply]

/-- A table entry is the bit loop on its index, since the fold starts from remainder 0. -/
theorem Machine.crcTable_eq_crcShifts (i : Byte) : crcTable i = crcShifts 8 i :=
  congrArg (crcShifts 8) (BitVec.zero_xor (x := i))

/-- One byte of division is one look-up (40 R102). -/
theorem Machine.crcStep8_eq_crcTable (c b : Byte) : crcStep8 c b = crcTable (c ^^^ b) :=
  (crcTable_eq_crcShifts (c ^^^ b)).symm

/-- The table form folds the same step as `crc8` (40 R102). -/
theorem Machine.crc8ByTable_eq_crc8 (s : List Byte) : crc8ByTable s = crc8 s := by
  have hstep : (fun c b => crcTable (c ^^^ b)) = crcStep8 := funext₂ fun c b => (crcStep8_eq_crcTable c b).symm
  rw [crc8ByTable, hstep, crc8]

/-- Settles O12: the bit loop is the division step iterated 8 times, and each look-up of the table is that loop. -/
theorem crcTableFormEqualsBitLoop : Obligations.CrcTableFormEqualsBitLoop :=
  ⟨fun c b => crcShifts_eq_iterate 8 (c ^^^ b), by decide, by decide, rfl, crc8_append, fun _ => rfl,
    crcStep8_eq_crcTable, crc8ByTable_eq_crc8⟩

/-! ### The algebraic laws (40 R104) -/

/-- One byte of division is linear in the remainder and the byte together. -/
theorem Machine.crcStep8_xor (c d a b : Byte) : crcStep8 (c ^^^ d) (a ^^^ b) = crcStep8 c a ^^^ crcStep8 d b := by
  have hswap : c ^^^ d ^^^ (a ^^^ b) = c ^^^ a ^^^ (d ^^^ b) := by ac_rfl
  rw [crcStep8, hswap, crcShifts_xor, crcStep8, crcStep8]

/-- Division of equally long sequences is linear, from any two remainders. -/
theorem Machine.foldl_crcStep8_xor {a b : List Byte} (h : a.length = b.length) (c d : Byte) :
    (List.zipWith (· ^^^ ·) a b).foldl crcStep8 (c ^^^ d) = a.foldl crcStep8 c ^^^ b.foldl crcStep8 d := by
  induction a generalizing b c d with
  | nil =>
    obtain rfl : b = [] := List.length_eq_zero_iff.mp h.symm
    rfl
  | cons x a ih =>
    cases b with
    | nil => cases h
    | cons y b =>
      simp only [List.zipWith_cons_cons, List.foldl_cons, crcStep8_xor]
      exact ih (Nat.succ.inj h) (crcStep8 c x) (crcStep8 d y)

/-- A leading zero byte leaves the initial remainder 0. -/
theorem Machine.crc8_zero_cons (s : List Byte) : crc8 (0x00 :: s) = crc8 s :=
  congrArg (s.foldl crcStep8) (crcStep8_self 0x00)

/-- So does any number of leading zero bytes. -/
theorem Machine.crc8_replicate_zero_append (k : Nat) (s : List Byte) : crc8 (List.replicate k 0x00 ++ s) = crc8 s := by
  induction k with
  | zero => rfl
  | succ k ih => rw [List.replicate_succ, List.cons_append, crc8_zero_cons, ih]

/-- Settles O13: a zero byte keeps remainder 0, a byte equal to the remainder leaves 0, and every step is linear. -/
theorem crcAlgebraicLaws : Obligations.CrcAlgebraicLaws :=
  ⟨crc8_replicate_zero_append, fun s => (crc8_append s (crc8 s)).trans (crcStep8_self (crc8 s)),
    fun _ _ h => foldl_crcStep8_xor h Config.crcInit Config.crcInit⟩

/-! ### The unit and the command (40 R105, R106) -/

/-- Settles O14: CRC_CLEAR forgets what CRCR held, and the updates fold the bytes into it alone. -/
theorem crcUnitComputesCrc8 : Obligations.CrcUnitComputesCrc8 :=
  fun s bytes => State.crcUpdate_foldl bytes s.crcClear

/-- A packet of CRC8 is accepted exactly when its count byte is the number of its data bytes (30 R83, R84). -/
theorem decode_crc8 (n : Byte) (data : List Byte) :
    decode (0x30 :: n :: data) = if data.length = n.toNat then .ok (.crc8 data) else .error .badLength := by
  have hlen : (Opcode.crc8.byte :: n :: data).length = Opcode.crc8.packetLength (Opcode.crc8.byte :: n :: data) ↔
      data.length = n.toNat := by
    simp only [Opcode.packetLength, byteAt, List.length_cons, List.getD_cons_succ, List.getD_cons_zero]
    omega
  exact (decode_opcode .crc8 (n :: data)).trans (if_congr hlen rfl rfl)

/-- Settles O15: the packet by the decoder's length check; the answer is the command's own definition. -/
theorem crc8CommandAnswersTheChecksum : Obligations.Crc8CommandAnswersTheChecksum :=
  ⟨rfl, decode_crc8, fun _ _ => rfl⟩

end Sys2Proof
end

section
/-! SUPPORT and PROOFS. The channel packer: `pack` and `unpack` read one 176-bit stream, whose bits both name, and the
commands PACK and UNPACK (spec 41_channel_packer.md R120 to R127). -/

namespace Sys2Proof

open Sys2Proof.Machine

/-! ### Bits of a packed payload (41 R121) -/

/-- Bit `b` of payload byte `j` is stream bit `8j + b`. -/
theorem Machine.pack_getLsbD (v : Vector Chan 16) (j b : Nat) (hj : j < 22) (hb : b < 8) :
    (pack v)[j].getLsbD b = (packStream v).getLsbD (8 * j + b) := by
  simp [pack_getElem, hb]

/-- Bit `b` of unpacked channel `i` is stream bit `11i + b`. -/
theorem Machine.unpack_getLsbD (p : Vector Byte 22) (i b : Nat) (hi : i < 16) (hb : b < 11) :
    (unpack p)[i].getLsbD b = (byteStream p).getLsbD (11 * i + b) := by
  simp [unpack_getElem, hb]

/-- Settles O16: stream bit `n` is bit `n % 8` of byte `n / 8`, and bit `b` of channel `i` is stream bit `11i + b`. -/
theorem packPlacesEveryChannelBit : Obligations.PackPlacesEveryChannelBit := by
  intro v i b hi hb
  rw [pack_getLsbD v _ _ (by omega) (by omega), Nat.div_add_mod, packStream_getLsbD v i b hi hb]

/-! ### The payload byte by byte (41 R127) -/

/-- A byte whose eight bits lie within channel `i`, from bit `lo` on. -/
theorem Machine.pack_getElem_within (v : Vector Chan 16) (j i lo : Nat) (hj : j < 22 := by omega)
    (hi : i < 16 := by omega) (hstart : 8 * j = 11 * i + lo := by omega) (hfit : lo + 8 ≤ 11 := by omega) :
    (pack v)[j] = v[i].extractLsb' lo 8 := by
  apply BitVec.eq_of_getLsbD_eq
  intro b hb
  rw [pack_getLsbD v j b hj hb, hstart, Nat.add_assoc, packStream_getLsbD v i (lo + b) hi (by omega)]
  simp [hb]

/-- A byte that holds the last `n` bits of channel `i`, from bit `lo` on, and above them the first `m` of the next. -/
theorem Machine.pack_getElem_across (v : Vector Chan 16) (j i lo m n : Nat) (hj : j < 22 := by omega)
    (hi : i + 1 < 16 := by omega) (hstart : 8 * j = 11 * i + lo := by omega) (hend : lo + n = 11 := by omega)
    (hbyte : m + n = 8 := by omega) :
    (pack v)[j] = (v[i + 1].extractLsb' 0 m ++ v[i].extractLsb' lo n).cast hbyte := by
  apply BitVec.eq_of_getLsbD_eq
  intro b hb
  rw [pack_getLsbD v j b hj hb, BitVec.getLsbD_cast, BitVec.getLsbD_append]
  by_cases hn : b < n
  · rw [hstart, Nat.add_assoc, packStream_getLsbD v i (lo + b) (by omega) (by omega)]
    simp [hn]
  · have hbit : 8 * j + b = 11 * (i + 1) + (b - n) := by omega
    rw [hbit, packStream_getLsbD v (i + 1) (b - n) hi (by omega)]
    simp [hn, show b - n < m by omega]

/-- Settles O17: each byte by the channel and bit it starts at; across two channels, also the bit counts of the two. -/
theorem payloadLayoutTable : Obligations.PayloadLayoutTable := fun v =>
  ⟨pack_getElem_within v 0 0 0,
    pack_getElem_across v 1 0 8 5 3,
    pack_getElem_across v 2 1 5 2 6,
    pack_getElem_within v 3 2 2,
    pack_getElem_across v 4 2 10 7 1,
    pack_getElem_across v 5 3 7 4 4,
    pack_getElem_across v 6 4 4 1 7,
    pack_getElem_within v 7 5 1,
    pack_getElem_across v 8 5 9 6 2,
    pack_getElem_across v 9 6 6 3 5,
    pack_getElem_within v 10 7 3,
    pack_getElem_within v 11 8 0,
    pack_getElem_across v 12 8 8 5 3,
    pack_getElem_across v 13 9 5 2 6,
    pack_getElem_within v 14 10 2,
    pack_getElem_across v 15 10 10 7 1,
    pack_getElem_across v 16 11 7 4 4,
    pack_getElem_across v 17 12 4 1 7,
    pack_getElem_within v 18 13 1,
    pack_getElem_across v 19 13 9 6 2,
    pack_getElem_across v 20 14 6 3 5,
    pack_getElem_within v 21 15 3⟩

/-! ### `pack` and `unpack` are inverse (41 R123) -/

/-- The bytes of `pack` spell the stream they were cut from. -/
theorem Machine.byteStream_pack (v : Vector Chan 16) : byteStream (pack v) = packStream v := by
  apply BitVec.eq_of_getLsbD_eq
  intro k hk
  rw [← Nat.div_add_mod k 8, byteStream_getLsbD _ _ _ (by omega) (by omega), pack_getLsbD _ _ _ (by omega) (by omega)]

/-- The channels of `unpack` spell the stream they were cut from. -/
theorem Machine.packStream_unpack (p : Vector Byte 22) : packStream (unpack p) = byteStream p := by
  apply BitVec.eq_of_getLsbD_eq
  intro k hk
  rw [← Nat.div_add_mod k 11, packStream_getLsbD _ _ _ (by omega) (by omega),
    unpack_getLsbD _ _ _ (by omega) (by omega)]

/-- Unpacking a packed channel list gives the list. -/
theorem Machine.unpack_pack (v : Vector Chan 16) : unpack (pack v) = v := by
  ext i hi : 1
  apply BitVec.eq_of_getLsbD_eq
  intro b hb
  rw [unpack_getLsbD _ i b hi hb, byteStream_pack, packStream_getLsbD v i b hi hb]

/-- Packing an unpacked payload gives the payload. -/
theorem Machine.pack_unpack (p : Vector Byte 22) : pack (unpack p) = p := by
  ext j hj : 1
  apply BitVec.eq_of_getLsbD_eq
  intro b hb
  rw [pack_getLsbD _ j b hj hb, packStream_unpack, byteStream_getLsbD p j b hj hb]

/-- Settles O18: either composition reads back the stream it wrote; masking only says what is packed. -/
theorem packAndUnpackAreInverse : Obligations.PackAndUnpackAreInverse :=
  ⟨fun v => unpack_pack (v.map mask11), unpack_pack, pack_unpack⟩

/-! ### PACK (41 R125) -/

/-- A packet with a count byte and two-byte fields is accepted exactly when it has as many fields as it counts
(30 R83, R84). -/
theorem decode_countedHalves {op : Opcode} (hop : ∀ p, op.packetLength p = 2 + 2 * (byteAt p 1).toNat) (n : Byte)
    (body : List Byte) :
    decode (op.byte :: n :: body) =
      if body.length = 2 * n.toNat then .ok (op.operands (op.byte :: n :: body)) else .error .badLength := by
  have hlen : (op.byte :: n :: body).length = op.packetLength (op.byte :: n :: body) ↔
      body.length = 2 * n.toNat := by
    simp only [hop, byteAt, List.length_cons, List.getD_cons_succ, List.getD_cons_zero]
    omega
  exact (decode_opcode op (n :: body)).trans (if_congr hlen rfl rfl)

/-- The lanes of sixteen operands, masked, are the operands masked (30 R82). -/
theorem Machine.ofFn_mask11_lane (vals : Vector Half 16) :
    (Vector.ofFn fun i : Fin 16 => mask11 (lane vals.toList i.val)) = vals.map mask11 := by
  ext i hi : 1
  simp [lane]

/-- Masking to 11 bits takes the low 11 bits (00 R10). -/
theorem Machine.mask11_eq_extractLsb' : mask11 = fun v : Half => v.extractLsb' 0 11 :=
  funext fun _ => BitVec.setWidth_eq_extractLsb' (by omega)

/-- PACK of sixteen operands answers the packing of their masked values (41 R125). -/
theorem exec_pack_sixteen (vals : Vector Half 16) (s : State) :
    exec (.pack vals.toList) s = .next (s.respond (Status.ok.code :: (pack (vals.map mask11)).toList)) := by
  rw [exec_pack, if_neg (by simp), ofFn_mask11_lane]

/-- Settles O19: the packet by the decoder's length check, the answers by PACK's equation. -/
theorem packCommandMasksAndPacks : Obligations.PackCommandMasksAndPacks := by
  refine ⟨rfl, fun _ _ _ => rfl, decode_countedHalves (op := .pack) fun _ => rfl, ?_, ?_⟩
  · intro vals s hcount
    rw [exec_pack, if_pos hcount]
    rfl
  · intro vals s
    rw [exec_pack_sixteen, mask11_eq_extractLsb']
    rfl

/-! ### UNPACK (41 R126) -/

/-- Settles O20: the packet by the decoder's length check and round trip; the answer is the command's own definition. -/
theorem unpackCommandAnswersTheChannels : Obligations.UnpackCommandAnswersTheChannels := by
  refine ⟨fun h => ⟨_, _, rfl, (u16_u16le h).symm⟩, ?_, fun p => decodeReadsBackEveryEncodedCommand (.unpack p) rfl,
    fun _ _ => rfl⟩
  intro rest hlen
  exact (decode_opcode .unpack rest).trans (if_neg (by simpa [Opcode.packetLength] using hlen))

end Sys2Proof
end

section
/-! SUPPORT and PROOFS. The frame codec: the cases of `parseStream`, what each consumes, and the commands BUILD_FRAME and
PARSE (spec 42_frame_codec.md R140 to R152); and that every command and every turn answers a next state. -/

namespace Sys2Proof

open Sys2Proof.Machine

/-! ### The parser's five cases (42 R143 to R148) -/

/-- Fewer than two bytes hold no length byte (42 R144). -/
theorem Machine.parseStream_of_length_lt_two {buf : List Byte} (h : buf.length < 2) :
    parseStream buf = (0, .needMore) := by
  rw [parseStream, if_pos h]

/-- A length byte that has no room for the type and the CRC (42 R145). -/
theorem Machine.parseStream_of_lengthByte_lt_two (addr len : Byte) (rest : List Byte) (h : len.toNat < 2) :
    parseStream (addr :: len :: rest) = (1, .lenInvalid) := by
  rw [parseStream, if_neg (by simp)]
  exact if_pos h

/-- Fewer bytes than the length byte asks for (42 R146). -/
theorem Machine.parseStream_incomplete (addr len : Byte) (rest : List Byte) (hlen : 2 ≤ len.toNat)
    (h : rest.length < len.toNat) : parseStream (addr :: len :: rest) = (0, .needMore) := by
  rw [parseStream, if_neg (by simp)]
  have hshort : (addr :: len :: rest).length < len.toNat + 2 := by simpa using h
  exact (if_neg (Nat.not_lt.mpr hlen)).trans (if_pos hshort)

/-- Settles O21, one lemma a case; the last two are the outcomes of the CRC comparison on a whole frame. -/
theorem parseStreamFollowsItsFiveCases : Obligations.ParseStreamFollowsItsFiveCases := by
  refine ⟨fun _ => parseStream_of_length_lt_two, parseStream_of_lengthByte_lt_two, parseStream_incomplete, ?_, ?_⟩
  · intro addr len ty crc payload rest hlen hcrc
    rw [parseStream_whole addr len ty crc payload rest hlen, if_pos hcrc]
  · intro addr len ty crc payload rest hlen hcrc
    rw [parseStream_whole addr len ty crc payload rest hlen, if_neg hcrc]

/-! ### What a parse consumes (42 R149, R152) -/

/-- Settles O22, from the four answers of `parseStream`. -/
theorem parseStreamConsumptionBounds : Obligations.ParseStreamConsumptionBounds := by
  intro buf
  rcases parseStream_cases buf with ⟨h, hlen⟩ | ⟨h, hlen⟩ | ⟨h, hlen⟩ | ⟨f, h, hlen, -, -⟩ <;> rw [h]
  · exact ⟨by simp, nofun, nofun, nofun, Nat.zero_le _, fun hfull => absurd hlen (Nat.not_lt.mpr hfull)⟩
  · exact ⟨by simp, fun _ => rfl, nofun, nofun, Nat.le_of_succ_le hlen, fun _ => Nat.one_pos⟩
  · exact ⟨by simp, nofun, fun _ => rfl, nofun, Nat.le_of_succ_le hlen, fun _ => Nat.one_pos⟩
  · exact ⟨by simp, nofun, nofun, fun _ _ => rfl, hlen, fun _ => Nat.succ_pos _⟩

/-- Settles O23: a built frame is a whole frame whose CRC byte matches. -/
theorem parsingABuiltFrameGivesItBack : Obligations.ParsingABuiltFrameGivesItBack := parseStream_buildFrame

/-- The payload of a parsed frame is what the length byte leaves beside the type and the CRC: at most 253 bytes. -/
theorem Machine.parseStream_payload_length_le {buf : List Byte} {n : Nat} {f : Frame}
    (h : parseStream buf = (n, .frame f)) : f.payload.length ≤ 253 := by
  have hbyte := (byteAt buf 1).isLt
  rcases parseStream_cases buf with ⟨h', -⟩ | ⟨h', -⟩ | ⟨h', -⟩ | ⟨g, h', -, -, hpayload⟩
  · simp [h] at h'
  · simp [h] at h'
  · simp [h] at h'
  · obtain ⟨-, rfl⟩ : n = (byteAt buf 1).toNat + 2 ∧ f = g := by simpa [h] using h'
    omega

/-! ### BUILD_FRAME (42 R150) -/

/-- A packet that ends before its opcode's count field does is rejected (30 R84). -/
theorem decode_shortHeader (op : Opcode) (rest : List Byte) (h : (op.byte :: rest).length < op.headerLength) :
    decode (op.byte :: rest) = .error .badLength :=
  (decode_opcode op rest).trans
    (if_neg (Nat.ne_of_lt (Nat.lt_of_lt_of_le h (op.headerLength_le_packetLength _))))

/-- A packet of BUILD_FRAME is accepted exactly when its count byte is the number of its payload bytes (30 R83, R84). -/
theorem decode_buildFrame (a t l : Byte) (payload : List Byte) :
    decode (0x33 :: a :: t :: l :: payload) =
      if payload.length = l.toNat then .ok (.buildFrame a t payload) else .error .badLength := by
  have hlen : (Opcode.buildFrame.byte :: a :: t :: l :: payload).length =
      Opcode.buildFrame.packetLength (Opcode.buildFrame.byte :: a :: t :: l :: payload) ↔ payload.length = l.toNat := by
    simp only [Opcode.packetLength, byteAt, List.length_cons, List.getD_cons_succ, List.getD_cons_zero]
    omega
  exact (decode_opcode .buildFrame (a :: t :: l :: payload)).trans (if_congr hlen rfl rfl)

/-- Settles O24: the packet by the decoder's length checks, the answers by BUILD_FRAME's equation. -/
theorem buildFrameCommandAnswersTheFrame : Obligations.BuildFrameCommandAnswersTheFrame := by
  refine ⟨fun rest h => decode_shortHeader .buildFrame rest (Nat.succ_lt_succ h), decode_buildFrame, ?_, ?_⟩
  · intro a t payload s hlong
    rw [exec_buildFrame, if_pos hlong]
    rfl
  · intro a t payload s hfits
    refine ⟨BitVec.ofNat 8 (payload.length + 2), toNat_ofNat_byte _ (by omega), ?_⟩
    rw [exec_buildFrame, if_neg (Nat.not_lt.mpr hfits)]
    rfl

/-! ### PARSE (42 R151) -/

/-- A packet of PARSE is accepted exactly when its two count bytes give the number of its buffer bytes (30 R83, R84). -/
theorem decode_parse (lo hi : Byte) (buf : List Byte) :
    decode (0x34 :: lo :: hi :: buf) =
      if buf.length = lo.toNat + 256 * hi.toNat then .ok (.parse buf) else .error .badLength := by
  have hlen : (Opcode.parse.byte :: lo :: hi :: buf).length =
      Opcode.parse.packetLength (Opcode.parse.byte :: lo :: hi :: buf) ↔ buf.length = lo.toNat + 256 * hi.toNat := by
    simp only [Opcode.packetLength, byteAt, u16_toNat, List.length_cons, List.getD_cons_succ, List.getD_cons_zero]
    omega
  exact (decode_opcode .parse (lo :: hi :: buf)).trans (if_congr hlen rfl rfl)

/-- PARSE answers the consumed count and the event of one `parseStream` call, and writes nothing else (42 R151). -/
theorem exec_parse {buf : List Byte} {n : Nat} {ev : ParseEvent} (h : parseStream buf = (n, ev)) (s : State) :
    exec (.parse buf) s = .next (s.respond (Status.ok.code :: parseResult n ev)) := by
  rw [exec, execParse, h]
  rfl

/-- Settles O25: the packet by the decoder's length checks; each answer by PARSE's equation, with the consumed count of its
event. -/
theorem parseCommandAnswersOneParse : Obligations.ParseCommandAnswersOneParse := by
  refine ⟨fun h => ⟨_, _, rfl, (u16_u16le h).symm⟩,
    fun rest h => decode_shortHeader .parse rest (Nat.succ_lt_succ h), decode_parse, ?_, ?_, ?_, ?_⟩
  · intro buf s n f h
    have hpayload := parseStream_payload_length_le h
    exact ⟨BitVec.ofNat 8 f.payload.length, toNat_ofNat_byte _ (by omega), exec_parse h s⟩
  · intro buf s hev
    obtain ⟨hneedMore, -⟩ := parseStreamConsumptionBounds buf
    exact exec_parse (Prod.ext (hneedMore.mpr hev) hev) s
  · intro buf s hev
    obtain ⟨-, -, hcrcMismatch, -⟩ := parseStreamConsumptionBounds buf
    exact exec_parse (Prod.ext (hcrcMismatch hev) hev) s
  · intro buf s hev
    obtain ⟨-, hlenInvalid, -⟩ := parseStreamConsumptionBounds buf
    exact exec_parse (Prod.ext (hlenInvalid hev) hev) s

/-! ### Nothing stops (93 section 1) -/

/-- Every command answers a next state: each has an equation that says which. -/
theorem exec_eq_next (i : Instr) (s : State) : ∃ t : State, exec i s = .next t := by
  cases i with
  | getStatus | getCounters | crc8 | unpack => exact ⟨_, rfl⟩
  | setChannel idx val => exact ⟨_, exec_setChannel idx val s⟩
  | setChannels vals => exact ⟨_, exec_setChannels vals s⟩
  | arm => exact ⟨_, exec_arm s⟩
  | disarm => exact ⟨_, exec_disarm s⟩
  | resetControls => exact ⟨_, exec_resetControls s⟩
  | startLink baud rate => exact ⟨_, exec_startLink baud rate s⟩
  | stopLink => exact ⟨_, exec_stopLink s⟩
  | pack vals => exact ⟨_, exec_pack vals s⟩
  | buildFrame a t payload => exact ⟨_, exec_buildFrame a t payload s⟩
  | parse buf => exact ⟨_, exec_parse rfl s⟩

/-- Every turn answers a next state: a rejected packet its error's response, an accepted one its command's state. -/
theorem takeTurn_eq_next (t : Turn) (s : State) : ∃ t' : State, takeTurn t s = .next t' := by
  cases t with
  | command p =>
    rw [takeTurn_command]
    cases decode p with
    | error e => exact ⟨_, rfl⟩
    | ok i => exact exec_eq_next i s
  | openDone => exact ⟨_, takeTurn_openDone s⟩
  | txTick => exact ⟨_, takeTurn_txTick s⟩
  | rxRead => exact ⟨_, takeTurn_rxRead s⟩
  | rxParse => exact ⟨_, takeTurn_rxParse s⟩
  | finalTx => exact ⟨_, takeTurn_finalTx s⟩
  | reset => exact ⟨_, takeTurn_reset s⟩

/-- Settles O9: a step is a turn, and every turn and every command has an equation with its next state. -/
theorem nothingEverStops : Obligations.NothingEverStops :=
  ⟨exec_eq_next, fun s => takeTurn_eq_next s.nextTurn s.popTurn⟩

end Sys2Proof
end

section
/-! SUPPORT and PROOFS. The channel and safety commands: which packets are theirs, what they answer in each lifecycle state,
and the channels they write (spec 43_channel_state.md R171 to R177). -/

namespace Sys2Proof

open Sys2Proof.Machine

/-! ### The lifecycle check (60 R246) -/

/-- A control command in Closed or ShuttingDown answers NOT_CONNECTED and does not make its write. -/
theorem Machine.whenControllable_refused {s : State} (h : s.lstate = .closed ∨ s.lstate = .shuttingDown) (s' : State) :
    whenControllable s s' = .next (s.respondStatus .notConnected) := by
  have hinactive : ¬(s.lstate = .opened ∨ s.lstate = .running) := by rcases h with h | h <;> simp [h]
  rw [whenControllable_eq, if_neg hinactive]

/-- A control command in Open or Running makes its write and answers OK. -/
theorem Machine.whenControllable_accepted {s : State} (h : s.lstate = .opened ∨ s.lstate = .running) (s' : State) :
    whenControllable s s' = .next (s'.respondStatus .ok) := by
  rw [whenControllable_eq, if_pos h]

/-! ### Commands without operands (43 R175 to R177) -/

/-- The packet of a command without operands is its opcode byte alone (30 R83, R84). -/
theorem decode_opcodeAlone {op : Opcode} (hop : ∀ p, op.packetLength p = 1) (rest : List Byte) :
    decode (op.byte :: rest) = if rest = [] then .ok (op.operands [op.byte]) else .error .badLength := by
  cases rest with
  | nil => exact (decode_opcode op []).trans (if_pos (hop _).symm)
  | cons b rest => exact (decode_opcode op (b :: rest)).trans (if_neg (by simp [hop]))

/-- Settles O28: ARM makes the write of `arm()` where control is accepted. -/
theorem armSetsTheArmSwitch : Obligations.ArmSetsTheArmSwitch :=
  ⟨decode_opcodeAlone (op := .arm) fun _ => rfl, fun s h => whenControllable_refused h s.arm,
    fun s h => (whenControllable_accepted h s.arm).trans (by rw [State.arm_eq]; rfl)⟩

/-- Settles O29: DISARM makes the write of `disarm()` where control is accepted. -/
theorem disarmClearsTheArmSwitch : Obligations.DisarmClearsTheArmSwitch :=
  ⟨decode_opcodeAlone (op := .disarm) fun _ => rfl, fun s h => whenControllable_refused h s.disarm,
    fun s h => (whenControllable_accepted h s.disarm).trans (by rw [State.disarm_eq]; rfl)⟩

/-- Settles O30: RESET_CONTROLS makes the write of `reset_controls()` where control is accepted; its three writes are to
different channels. -/
theorem resetControlsCentresTheSticks : Obligations.ResetControlsCentresTheSticks := by
  refine ⟨decode_opcodeAlone (op := .resetControls) fun _ => rfl,
    fun s h => whenControllable_refused h s.resetControls, fun s h => ?_⟩
  refine ⟨((s.ch.set 0 1024).set 1 1024).set 3 1024, by simp, by simp, by simp, ?_, ?_⟩
  · intro k hk h0 h1 h3
    rw [Vector.getElem_set_ne _ _ h3.symm, Vector.getElem_set_ne _ _ h1.symm, Vector.getElem_set_ne _ _ h0.symm]
  · exact (whenControllable_accepted h s.resetControls).trans (by rw [State.resetControls_eq]; rfl)

/-! ### SET_CHANNEL (43 R173) -/

/-- A write inside the channel file. -/
theorem Machine.State.setCh_eq (s : State) {i : Nat} (hi : i < 16) (v : Chan) :
    s.setCh i v = { s with ch := s.ch.set i v } := by
  simp [State.setCh, Vector.setIfInBounds, Vector.set, Array.setIfInBounds, hi]

/-- SET_CHANNEL of a channel the host may write: only the lifecycle check is left. -/
theorem exec_setChannel_writable {idx : Byte} (hi : idx.toNat ≤ 15) (h4 : idx ≠ 4) (val : Half) (s : State) :
    exec (.setChannel idx val) s = whenControllable s (s.setCh idx.toNat (clamp val)) := by
  have hne : idx.toNat ≠ 4 := fun h => h4 (BitVec.eq_of_toNat_eq h)
  rw [exec_setChannel, if_neg (Nat.not_lt.mpr hi), if_neg hne, whenControllable_eq]

/-- Settles O26: the errors by SET_CHANNEL's equation, whose checks stand in the order of the rule. -/
theorem setChannelClampsOneChannel : Obligations.SetChannelClampsOneChannel := by
  refine ⟨?_, fun _ _ _ => rfl, ?_, fun _ _ => rfl, ?_, ?_⟩
  · intro rest hlen
    exact (decode_opcode .setChannel rest).trans (if_neg (by simpa [Opcode.packetLength] using hlen))
  · intro idx val s hbig
    rw [exec_setChannel, if_pos hbig]
    rfl
  · intro idx val s hi h4 hl
    exact (exec_setChannel_writable hi h4 val s).trans (whenControllable_refused hl _)
  · intro idx val s hi h4 hl
    refine ⟨clamp val, clamp_toNat val, ?_⟩
    rw [exec_setChannel_writable hi h4, whenControllable_accepted hl, State.setCh_eq s (by omega)]
    rfl

/-! ### SET_CHANNELS (43 R174) -/

/-- SET_CHANNELS of sixteen values: only the lifecycle check is left. -/
theorem exec_setChannels_sixteen {vals : List Half} (hlen : vals.length = 16) (s : State) :
    exec (.setChannels vals) s = whenControllable s (s.replaceChannels vals) := by
  rw [exec_setChannels, if_neg (by simpa using hlen), whenControllable_eq]

/-- `replace` clamps the value of every channel but CH[4] (43 R172). -/
theorem Machine.State.replaceChannels_toNat (s : State) (vals : Vector Half 16) {k : Nat} (hk : k < 16) (h4 : k ≠ 4) :
    ((s.replaceChannels vals.toList).ch[k].toNat : Int) = max 0 (min 2047 vals[k].toInt) := by
  have hlane : lane vals.toList k = vals[k] := by simp [lane, hk]
  simp only [State.replaceChannels_ch, Vector.getElem_mapIdx, if_neg h4, hlane, clamp_toNat]

/-- Settles O27: the packet by the decoder's length check; the errors by SET_CHANNELS' equation, in the order of the rule. -/
theorem setChannelsClampsAllButTheArmSwitch : Obligations.SetChannelsClampsAllButTheArmSwitch := by
  refine ⟨rfl, fun _ _ _ => rfl, decode_countedHalves (op := .setChannels) fun _ => rfl, ?_, ?_, ?_⟩
  · intro vals s hcount
    rw [exec_setChannels, if_pos hcount]
    rfl
  · intro vals s hlen hl
    exact (exec_setChannels_sixteen hlen s).trans (whenControllable_refused hl _)
  · intro vals s hl
    refine ⟨(s.replaceChannels vals.toList).ch, fun k hk h4 => s.replaceChannels_toNat vals hk h4,
      by simp, ?_⟩
    exact (exec_setChannels_sixteen vals.length_toList s).trans (whenControllable_accepted hl _)

end Sys2Proof
end

section
/-! SUPPORT and PROOFS. The lifecycle of a link: the turns that wait for their enabling condition, the steps without an
encoding, the link and status commands, and the transition table (spec 44_link_fsm.md R200 to R213). -/

namespace Sys2Proof

open Sys2Proof.Machine

/-! ### The next turn, and turns that pass (44 R213) -/

/-- Settles O5: the next turn and the state without it are read from the same list. -/
theorem stepTakesTheNextTurn : Obligations.StepTakesTheNextTurn := by
  refine ⟨fun s t ts hturns => ?_, fun s hturns => ⟨Config.freeTurn s.draws, ?_⟩⟩ <;>
    rw [step, State.nextTurn, State.popTurn, hturns]

/-- A turn that is not enabled changes nothing (log 2). -/
theorem takeTurn_of_disabled {t : Turn} {s : State} (h : t.enabled s = false) : takeTurn t s = .next s := by
  rw [takeTurn, h]
  rfl

/-- Settles O8: each condition is the failure of the turn's enabling condition. -/
theorem disabledTurnsPass : Obligations.DisabledTurnsPass := by
  refine fun s => ⟨fun h => ?_, fun h => ?_, fun h => ?_, fun h => ?_, fun h => ?_⟩ <;> apply takeTurn_of_disabled
  · simp [Turn.enabled, h]
  · simp [Turn.enabled, h]
  · simp [Turn.enabled, h]
  · rcases h with h | h <;> simp [Turn.enabled, h]
  · simp [Turn.enabled, h]

/-! ### A request and its answer (30 R76) -/

/-- A tp_open is recorded with the configuration, and its answer taken from the inputs. -/
theorem Machine.State.configure_emit_popOpen (s : State) (baud : Word) (rate : Half) (e : Event) :
    ((s.configure baud rate).emit e).popOpen =
      { s with
        cfgBaud := if baud = 0 then 420000 else baud
        cfgRate := if rate = 0 then 50 else rate
        trace := s.trace ++ [e]
        inp := s.popOpen.inp
        draws := s.popOpen.draws } := by
  cases h : s.inp.openAns <;>
    simp [State.popOpen, State.emit, State.configure, h, Config.defaultBaud, Config.defaultRate]

/-- A tp_write is recorded, and its answer taken from the inputs. -/
theorem Machine.State.emit_popWrite (s : State) (e : Event) :
    (s.emit e).popWrite =
      { s with trace := s.trace ++ [e], inp := s.popWrite.inp, draws := s.popWrite.draws } := by
  cases h : s.inp.writeAns <;> simp [State.popWrite, State.emit, h]

/-- A tp_read is recorded, and its answer taken from the inputs. -/
theorem Machine.State.emit_popRead (s : State) (e : Event) :
    (s.emit e).popRead =
      { s with trace := s.trace ++ [e], inp := s.popRead.inp, draws := s.popRead.draws } := by
  cases h : s.inp.readAns <;> simp [State.popRead, State.emit, h]

/-! ### START_LINK and STOP_LINK (44 R201, R208) -/

/-- Settles O32: the packet by the decoder's length check, the answers by START_LINK's equation and the answer to tp_open. -/
theorem startLinkOpensASession : Obligations.StartLinkOpensASession := by
  refine ⟨?_, fun _ _ _ _ _ _ => rfl, ?_, ?_, ?_⟩
  · intro rest hlen
    exact (decode_opcode .startLink rest).trans (if_neg (by simpa [Opcode.packetLength] using hlen))
  · intro baud rate s hl
    rw [exec_startLink, if_neg hl]
    rfl
  · intro baud rate s hl ha
    rw [exec_startLink, if_pos hl, ha, State.configure_emit_popOpen]
    rfl
  · intro baud rate s hl ha
    refine ⟨defaultChannels, by simp [defaultChannels_get], fun k hk h2 => by simp [defaultChannels_get, h2], ?_⟩
    rw [exec_startLink, if_pos hl, ha, State.configure_emit_popOpen]
    rfl

/-- Settles O33: the packet is the opcode alone, and the answers are the branches of STOP_LINK's equation. -/
theorem stopLinkRunsTheShutdownSequence : Obligations.StopLinkRunsTheShutdownSequence := by
  refine ⟨decode_opcodeAlone (op := .stopLink) fun _ => rfl, ?_, ?_, ?_⟩
  · intro s hl
    rw [exec_stopLink, if_pos hl]
    rfl
  · intro s hl
    rw [exec_stopLink, if_neg (by simp [hl]), if_pos hl]
    rfl
  · intro s hl
    have hopen : s.lstate ≠ .closed := by rcases hl with hl | hl <;> simp [hl]
    have hstop : s.lstate ≠ .shuttingDown := by rcases hl with hl | hl <;> simp [hl]
    rw [exec_stopLink, if_neg hopen, if_neg hstop, State.shutdownSequence_eq]
    rfl

/-! ### GET_STATUS and GET_COUNTERS (44 R211, R212) -/

/-- The FLAGS byte, with the weight of each flag and of each LSTATE (30 R87). -/
theorem Machine.State.flags_eq (s : State) :
    s.flags =
      (if s.armed then 0x01 else 0x00) ||| (if s.lstate = .closed then 0x00 else 0x02) |||
      (match s.lstate with | .closed => 0x00 | .opened => 0x04 | .running => 0x08 | .shuttingDown => 0x0C) |||
      (if s.lastErr then 0x10 else 0x00) := by
  rw [State.flags, State.connected_eq]
  cases s.armed <;> cases s.lstate <;> cases s.lastErr <;> decide

/-- The GET_STATUS answer has its status, FLAGS, two bytes a channel and the timestamp (30 R85). -/
theorem Machine.State.statusPacket_length (s : State) (ts : Word) : (s.statusPacket ts).length = 38 := by
  simp [State.statusPacket, State.snapshot, List.length_flatMap]

/-- Settles O34: the timestamp is the drawn value, and FLAGS and the length have a lemma each. -/
theorem getStatusReportsTheState : Obligations.GetStatusReportsTheState := by
  refine ⟨fun h => ⟨_, _, rfl, (u16_u16le h).symm⟩, decode_opcodeAlone (op := .getStatus) fun _ => rfl, fun s => ?_⟩
  refine ⟨Config.freeTimestamp s.draws, s.draws + 1, s.statusPacket (Config.freeTimestamp s.draws), ?_,
    s.statusPacket_length _, rfl⟩
  rw [State.statusPacket, State.flags_eq]
  rfl

/-- Settles O36: the packet is the opcode alone, the answer the command's own definition, and `u32le` is undone by `u32`. -/
theorem getCountersReportsTheCounters : Obligations.GetCountersReportsTheCounters :=
  ⟨decode_opcodeAlone (op := .getCounters) fun _ => rfl, fun _ => rfl,
    fun w => ⟨_, _, _, _, rfl, (u32_u32le w).symm⟩⟩

/-! ### The steps without an encoding (44 R202 to R210) -/

/-- Settles O37, by OPEN_DONE's equation. -/
theorem openDoneStartsRunning : Obligations.OpenDoneStartsRunning := fun s hl =>
  (takeTurn_openDone s).trans (by rw [if_pos hl])

/-- The bytes of a channel frame: 22 payload bytes, so a length byte of 24 (44 R204). -/
theorem Machine.channelFrame_bytes (snap : Vector Chan 16) :
    channelFrame snap =
      [0xC8, 0x18, 0x16] ++ (pack snap).toList ++ [crc8 (0x16 :: (pack snap).toList)] := by
  rw [channelFrame_eq, buildFrame, Vector.length_toList]
  rfl

/-- A channel frame has 26 bytes (44 R204). -/
theorem Machine.channelFrame_length (snap : Vector Chan 16) : (channelFrame snap).length = 26 := by
  rw [channelFrame_eq, buildFrame_length, Vector.length_toList]

/-- Settles O38: the frame of the snapshot, then by the answer nothing or the entry into Closed. -/
theorem txTickSendsTheCurrentChannels : Obligations.TxTickSendsTheCurrentChannels := by
  intro s hl
  refine ⟨channelFrame s.ch, channelFrame_bytes s.ch, channelFrame_length s.ch, fun ha => ?_, fun ha => ?_⟩
  · rw [takeTurn_txTick, if_pos hl, ha, State.emit_popWrite]
    rfl
  · rw [takeTurn_txTick, if_pos hl, ha, State.emit_popWrite, txResult, State.enterClosedOnError_eq]
    simp

/-- Settles O39: by the answer, `rx_append` of the bytes or the entry into Closed. -/
theorem rxReadFillsTheReceiveBuffer : Obligations.RxReadFillsTheReceiveBuffer := by
  refine fun s hl => ⟨fun xs ha => ?_, fun ha => ?_⟩
  · rw [takeTurn_rxRead, if_pos hl, ha, State.emit_popRead, rxResult, State.rxAppendAll_eq]
  · rw [takeTurn_rxRead, if_pos hl, ha, State.emit_popRead, rxResult, State.enterClosedOnError_eq]
    simp

/-- An RX_PARSE in Running that consumes bytes drops them and notes the event (44 R207). -/
theorem takeTurn_rxParse_of_parse {s : State} {n : Nat} {ev : ParseEvent} (hl : s.lstate = .running) (hn : 0 < n)
    (h : parseStream s.rxbuf = (n, ev)) :
    takeTurn .rxParse s = .next ({ s with rxbuf := s.rxbuf.drop n }.noteParse ev) := by
  rw [takeTurn_rxParse, h, if_pos ⟨hl, hn⟩]

/-- Settles O40: what is noted is the definition of each event. -/
theorem rxParseConsumesAndReports : Obligations.RxParseConsumesAndReports := fun _ _ hl hn =>
  ⟨fun _ h => takeTurn_rxParse_of_parse hl hn h, takeTurn_rxParse_of_parse hl hn, takeTurn_rxParse_of_parse hl hn⟩

/-- Settles O41: the frame of the snapshot, the report of a failed write, and the close. -/
theorem finalSendsOneFrameAndCloses : Obligations.FinalSendsOneFrameAndCloses := by
  intro s hl
  refine ⟨channelFrame s.ch, channelFrame_bytes s.ch, fun ha => ?_, fun ha => ?_⟩ <;>
    rw [takeTurn_finalTx, if_pos hl, ha, State.emit_popWrite, finalResult_eq] <;>
    simp [State.emit]

/-! ### The lifecycle table (44 R200) -/

/-- A START_LINK opens the link exactly in Closed with an accepted open. -/
theorem exec_startLink_lstate {baud : Word} {rate : Half} {s s' : State}
    (h : exec (.startLink baud rate) s = .next s') :
    s'.lstate = if s.lstate = .closed ∧ s.openAnswer = .ok then .opened else s.lstate := by
  rw [exec_startLink] at h
  cases h
  by_cases hl : s.lstate = .closed
  · cases ha : s.openAnswer <;> simp [hl, openResult_eq]
  · simp [hl]

/-- A STOP_LINK shuts down exactly from Open and Running. -/
theorem exec_stopLink_lstate {s s' : State} (h : exec .stopLink s = .next s') :
    s'.lstate = if s.lstate = .opened ∨ s.lstate = .running then .shuttingDown else s.lstate := by
  rw [exec_stopLink] at h
  cases h
  cases hl : s.lstate <;> simp [hl]

/-- A packet that is neither link command keeps LSTATE. -/
theorem command_keeps_lstate {p : List Byte} {s s' : State} (h : takeTurn (.command p) s = .next s')
    (hstart : ∀ baud rate, decode p ≠ .ok (.startLink baud rate)) (hstop : decode p ≠ .ok .stopLink) :
    s'.lstate = s.lstate := by
  rcases command_cases h with ⟨st, -, rfl⟩ | ⟨i, r, d, -, -, rfl⟩ | ⟨i, hd, -, he⟩ | ⟨baud, rate, hd, -, -⟩
  · rfl
  · rfl
  · rcases he.armSwitch with ⟨rfl, -⟩ | ⟨hkeep, -⟩
    · exact absurd hd hstop
    · exact hkeep
  · exact absurd hd (hstart baud rate)

/-- Settles O43: the link commands by their own lemmas, every other turn by its effects. -/
theorem lifecycleFollowsTheTransitionTable : Obligations.LifecycleFollowsTheTransitionTable := by
  intro t s s' h
  cases t with
  | command p =>
    dsimp only
    cases hd : decode p with
    | error e => exact command_keeps_lstate h (by simp [hd]) (by simp [hd])
    | ok i =>
      cases i with
      | startLink baud rate =>
        rw [takeTurn_command, hd] at h
        exact exec_startLink_lstate h
      | stopLink =>
        rw [takeTurn_command, hd] at h
        exact exec_stopLink_lstate h
      | _ => exact command_keeps_lstate h (by simp [hd]) (by simp [hd])
  | openDone =>
    cases turnEffect_of_takeTurn h with
    | passed _ hoff => simp [show s.lstate ≠ .opened by simpa [Turn.enabled] using hoff]
    | openDone hl => simp [hl]
  | txTick =>
    cases turnEffect_of_takeTurn h with
    | passed _ hoff => simp [show s.lstate ≠ .running by simpa [Turn.enabled] using hoff]
    | sent hl ha => simp [ha]
    | sendFailed hl ha => simp [hl, ha, State.enterClosedOnError_eq]
  | rxRead =>
    cases turnEffect_of_takeTurn h with
    | passed _ hoff => simp [show s.lstate ≠ .running by simpa [Turn.enabled] using hoff]
    | received xs hl ha => simp [ha, State.rxAppendAll_eq]
    | readFailed hl ha => simp [hl, ha, State.enterClosedOnError_eq]
  | rxParse =>
    cases turnEffect_of_takeTurn h with
    | passed => rfl
    | parsed => simp
  | finalTx =>
    cases turnEffect_of_takeTurn h with
    | passed _ hoff => simp [show s.lstate ≠ .shuttingDown by simpa [Turn.enabled] using hoff]
    | finalSent hl => simp [hl]
  | reset =>
    cases turnEffect_of_takeTurn h with
    | passed _ hoff => cases hoff
    | wasReset => rw [State.resetStep_eq]

end Sys2Proof
end

section
/-! SUPPORT and PROOFS. Whole runs of a link: the snapshot that the final frame sends, and the turns that fairness promises
(spec 44_link_fsm.md R214, R219). -/

namespace Sys2Proof

open Sys2Proof.Machine

/-! ### The shutdown snapshot (44 R219) -/

/-- In ShuttingDown a turn keeps the channels or leads to Closed: no control command is accepted. -/
theorem TurnEffect.ch_of_shuttingDown {t : Turn} {s s' : State} (h : TurnEffect s t s')
    (hs : s.lstate = .shuttingDown) : s'.ch = s.ch ∨ s'.lstate = .closed := by
  cases h with
  | passed | answered => exact .inl rfl
  | controlled p i s' hd hl he => simp [hs] at hl
  | openFailed p baud rate hd hl | opened p baud rate hd hl => simp [hs] at hl
  | openDone hl | sent hl | sendFailed hl | received xs hl | readFailed hl | parsed hl => simp [hs] at hl
  | finalSent => exact .inr rfl
  | wasReset => exact .inr (by rw [State.resetStep_eq])

/-- While LSTATE stays ShuttingDown, so do the channels, whatever turns are taken. -/
theorem StepsWithin.ch_of_shuttingDown {t u : State} (h : StepsWithin (fun x => x.lstate = .shuttingDown) t u)
    (ht : t.lstate = .shuttingDown) : u.lstate = .shuttingDown ∧ u.ch = t.ch := by
  induction h with
  | refl => exact ⟨ht, rfl⟩
  | step u u' i _ hstep hu' ih =>
    obtain ⟨hu, hch⟩ := ih
    refine ⟨hu', ?_⟩
    rcases (turnEffect_of_takeTurn hstep).ch_of_shuttingDown (by simpa using hu) with hkeep | hclosed
    · simpa [hch] using hkeep
    · simp [hu'] at hclosed

/-- In ShuttingDown FINAL's first event is the frame of the channels (44 R209). -/
theorem takeTurn_finalTx_trace {s s' : State} (hs : s.lstate = .shuttingDown) (h : takeTurn .finalTx s = .next s') :
    ∃ es, s'.trace = s.trace ++ .tpWrite (channelFrame s.ch) :: es := by
  rw [takeTurn_finalTx, if_pos hs, finalResult_eq] at h
  cases h
  exact ⟨(if s.writeAnswer = .err then [.linkError] else []) ++ [.tpClose], by simp⟩

/-- Settles O51: STOP_LINK makes the snapshot, ShuttingDown keeps it, and FINAL sends it. -/
theorem finalFrameIsTheShutdownSnapshot : Obligations.FinalFrameIsTheShutdownSnapshot := by
  intro s t u v hl hstop hsteps hfinal
  obtain ⟨-, -, -, hstopped⟩ := stopLinkRunsTheShutdownSequence
  rw [hstopped s hl] at hstop
  cases hstop
  obtain ⟨hu, hch⟩ := hsteps.ch_of_shuttingDown rfl
  obtain ⟨es, htrace⟩ := takeTurn_finalTx_trace hu hfinal
  exact ⟨hch, es, by rw [htrace, hch, channelFrame_eq]⟩

/-! ### Fairness (44 R214) -/

/-- A weakly fair turn that is enabled stays enabled until a step takes it or disables it. -/
theorem Execution.WeaklyFair.enabled_until {x : Execution} {t : Turn} (hfair : x.WeaklyFair t) {n : Nat}
    (hn : t.enabled (x.state n) = true) :
    ∃ m, n ≤ m ∧ (∀ k, n ≤ k → k ≤ m → t.enabled (x.state k) = true) ∧
      (x.turn m = t ∨ t.enabled (x.state (m + 1)) = false) := by
  by_contra! hnever
  have hon : ∀ m, n ≤ m → ∀ k, n ≤ k → k ≤ m → t.enabled (x.state k) = true := by
    intro m hm
    induction m, hm using Nat.le_induction with
    | base => exact fun k h1 h2 => Nat.le_antisymm h1 h2 ▸ hn
    | succ m hm ih =>
      intro k h1 h2
      rcases Nat.le_succ_iff.mp h2 with h2 | rfl
      · exact ih k h1 h2
      · simpa using (hnever m hm ih).2
  obtain ⟨m, hm, hoff | htaken⟩ := hfair n
  · simp [hon m hm m hm le_rfl] at hoff
  · exact (hnever m hm (hon m hm)).1 htaken

/-- Step `n` of an execution has the effect of its turn on the state it finds. -/
theorem Execution.turnEffect (x : Execution) (n : Nat) :
    TurnEffect ((x.state n).withInputs (x.inputs n)).popTurn (x.turn n) (x.state (n + 1)) :=
  turnEffect_of_takeTurn (x.takeTurn_turn n)

/-- Settles O58: OPEN_DONE is enabled exactly in Open, and taken there it leads to Running. -/
theorem fairOpenWindowEnds : Obligations.FairOpenWindowEnds := by
  intro x n hfair hn
  obtain ⟨m, hm, hon, hend⟩ := hfair.openDone.enabled_until (n := n) (by simp [Turn.enabled, hn])
  refine ⟨m + 1, Nat.lt_succ_of_le hm, ?_⟩
  rcases hend with htaken | hoff
  · have hopen : (x.state m).lstate = .opened := by simpa [Turn.enabled] using hon m hm le_rfl
    have hnext := lifecycleFollowsTheTransitionTable .openDone _ _ (htaken ▸ x.takeTurn_turn m)
    simp [hnext, hopen]
  · simpa [Turn.enabled] using hoff

/-- In Running every turn but RX_PARSE only appends to RXBUF, unless it leaves Running (44 R205, R210). -/
theorem TurnEffect.rxbuf_extends {t : Turn} {s s' : State} (h : TurnEffect s t s') (ht : t ≠ .rxParse)
    (hs : s.lstate = .running) (hs' : s'.lstate = .running) : ∃ xs, s'.rxbuf = s.rxbuf ++ xs := by
  cases h with
  | passed | answered => exact ⟨[], by simp⟩
  | controlled p i s' hd hl he =>
    obtain ⟨ls, ch, a, rs, rfl⟩ := he.frame
    exact ⟨[], by simp⟩
  | openFailed p baud rate hd hl | opened p baud rate hd hl => simp [hs] at hl
  | openDone hl | finalSent hl => simp [hs] at hl
  | sent => exact ⟨[], by simp⟩
  | sendFailed | readFailed => simp [State.enterClosedOnError_eq] at hs'
  | received xs => exact ⟨xs.take (Config.rxbufCap - s.rxbuf.length), by simp [State.rxAppendAll_eq]⟩
  | parsed => exact absurd rfl ht
  | wasReset => simp [State.resetStep_eq] at hs'

/-- A parse consumes something exactly where the length byte is bad or as many bytes as it asks for stand
(42 R144 to R148). -/
theorem Machine.parseStream_consumes_iff (buf : List Byte) :
    0 < (parseStream buf).1 ↔
      2 ≤ buf.length ∧ ((byteAt buf 1).toNat < 2 ∨ (byteAt buf 1).toNat + 2 ≤ buf.length) := by
  unfold parseStream
  split
  · simp; omega
  dsimp only
  split
  · simp; omega
  split
  · simp; omega
  split <;> simp <;> omega

/-- More bytes at the end of the buffer never make a parse wait again. -/
theorem Machine.parseStream_consumes_append {buf : List Byte} (h : 0 < (parseStream buf).1) (xs : List Byte) :
    0 < (parseStream (buf ++ xs)).1 := by
  rw [parseStream_consumes_iff] at h ⊢
  obtain ⟨hlen, hready⟩ := h
  have hbyte : byteAt (buf ++ xs) 1 = byteAt buf 1 := List.getD_append buf xs 0 1 hlen
  rw [hbyte, List.length_append]
  omega

/-- RX_PARSE stays enabled under every other turn, unless Running is left. -/
theorem TurnEffect.keeps_rxParse_enabled {t : Turn} {s s' : State} (h : TurnEffect s t s') (ht : t ≠ .rxParse)
    (hs : Turn.enabled .rxParse s = true) (hs' : s'.lstate = .running) : Turn.enabled .rxParse s' = true := by
  obtain ⟨hrun, hconsumes⟩ : s.lstate = .running ∧ 0 < (parseStream s.rxbuf).1 := by simpa [Turn.enabled] using hs
  obtain ⟨xs, hbuf⟩ := h.rxbuf_extends ht hrun hs'
  simpa [Turn.enabled, hs', hbuf] using parseStream_consumes_append hconsumes xs

/-- Settles O59: only RX_PARSE itself and leaving Running disable RX_PARSE. -/
theorem fairReceiverParses : Obligations.FairReceiverParses := by
  intro x n hfair hn
  obtain ⟨m, hm, hon, hend⟩ := hfair.rxParse.enabled_until hn
  by_cases ht : x.turn m = .rxParse
  · exact ⟨m, hm, .inl ht⟩
  · have hoff : Turn.enabled .rxParse (x.state (m + 1)) = false := hend.resolve_left ht
    refine ⟨m + 1, Nat.le_succ_of_le hm, .inr fun hrun => ?_⟩
    have hkept := (x.turnEffect m).keeps_rxParse_enabled ht (by simpa [Turn.enabled] using hon m hm le_rfl) hrun
    simp [hkept] at hoff

end Sys2Proof
end

section
/-! SUPPORT and PROOFS. What stays out of reach of the received bytes, and what a command that answers an error leaves
unchanged (spec 60_exceptions.md R242 to R244, R254). -/

namespace Sys2Proof

open Sys2Proof.Machine

/-! ### The receiver's frame (60 R242 to R244) -/

/-- What the receiver notes of a parse event is a counter or an event of the trace (44 R207). -/
theorem Machine.State.noteParse_frame (s : State) (ev : ParseEvent) :
    ∃ crc len es, s.noteParse ev = { s with crcErrCnt := crc, lenErrCnt := len, trace := es } := by
  cases ev <;> exact ⟨_, _, _, rfl⟩

/-- Settles O48, by the effects of the receiver's two turns: a parse notes its event, and a read appends to RXBUF. -/
theorem receivedBytesNeverTouchControlState : Obligations.ReceivedBytesNeverTouchControlState := by
  rintro t s s' h (rfl | ⟨rfl, hok⟩)
  · cases turnEffect_of_takeTurn h with
    | passed => rfl
    | parsed =>
      obtain ⟨crc, len, es, heq⟩ := State.noteParse_frame
        { s with rxbuf := s.rxbuf.drop (parseStream s.rxbuf).1 } (parseStream s.rxbuf).2
      rw [heq]
  · cases turnEffect_of_takeTurn h with
    | passed => rfl
    | received xs => rw [State.rxAppendAll_eq, State.emit_popRead]
    | readFailed _ ha => exact absurd ha hok

/-! ### Precise errors (60 R254) -/

/-- A response of one byte is the status byte that begins it (30 R85). -/
theorem status_eq_of_responses {rs : List (List Byte)} {b sts : Byte} {result : List Byte}
    (h : rs ++ [b :: result] = rs ++ [[sts]]) : sts = b := by
  cases List.append_cancel_left h
  rfl

/-- Settles O50, by what a command packet can do: an error only answers, a read, a pure or a control command answers OK,
and the answer to START_LINK's open decides its status. -/
theorem synchronousErrorsArePrecise : Obligations.SynchronousErrorsArePrecise := by
  intro p s s' sts h hresp hne
  rcases command_cases h with ⟨st, -, rfl⟩ | ⟨i, r, d, -, -, rfl⟩ | ⟨i, -, -, he⟩ | ⟨baud, rate, hd, -, rfl⟩
  · obtain rfl := status_eq_of_responses hresp
    exact .inl rfl
  · exact absurd (status_eq_of_responses hresp) hne
  · rw [he.responses] at hresp
    exact absurd (status_eq_of_responses hresp) hne
  · rw [State.configure_emit_popOpen] at hresp ⊢
    generalize s.openAnswer = a at hresp ⊢
    cases a with
    | ok => exact absurd (status_eq_of_responses hresp) hne
    | err => exact .inr ⟨status_eq_of_responses hresp, ⟨baud, rate, hd⟩, rfl⟩

end Sys2Proof
end

section
/-! SUPPORT and PROOFS. RESET, the reset state, and the hazard of an unfinished shutdown
(spec 70_reset_and_hazards.md R270, R272, R273). -/

namespace Sys2Proof

open Sys2Proof.Machine

/-! ### RESET and the reset state (70 R270, R272) -/

/-- Settles O42, by RESET's equation: the channels it leaves are the default channels. -/
theorem resetRestoresEveryElement : Obligations.ResetRestoresEveryElement := by
  refine fun s => ⟨defaultChannels, by simp [defaultChannels_get], fun k hk h2 => by simp [defaultChannels_get, h2], ?_⟩
  rw [takeTurn_reset, State.resetStep_eq]

/-- In Closed no internal step is enabled (44 R213). -/
theorem Machine.Turn.enabled_of_closed {t : Turn} {s : State} (hs : s.lstate = .closed) (hp : ∀ p, t ≠ .command p)
    (hr : t ≠ .reset) : t.enabled s = false := by
  cases t with
  | command p => exact absurd rfl (hp p)
  | reset => exact absurd rfl hr
  | openDone | txTick | rxRead | rxParse | finalTx => simp [Turn.enabled, hs]

/-- Settles O53: the reset state is safe, and it is in Closed. -/
theorem resetStateIsSafe : Obligations.ResetStateIsSafe := by
  refine ⟨inv_reset, ?_, ?_, ?_, ?_, ?_⟩ <;>
    exact Turn.enabled_of_closed rfl (fun _ => Turn.noConfusion) Turn.noConfusion

/-! ### An unfinished shutdown (70 R273) -/

/-- ShuttingDown is left only to Closed, and FINAL leaves it (44 R200). -/
theorem TurnEffect.lstate_of_shuttingDown {t : Turn} {s s' : State} (h : TurnEffect s t s')
    (hs : s.lstate = .shuttingDown) : s'.lstate = .closed ∨ (t ≠ .finalTx ∧ s'.lstate = .shuttingDown) := by
  cases h with
  | passed t hoff =>
    refine .inr ⟨?_, hs⟩
    rintro rfl
    simp [Turn.enabled, hs] at hoff
  | answered => exact .inr ⟨Turn.noConfusion, hs⟩
  | controlled p i s' hd hl he => simp [hs] at hl
  | openFailed p baud rate hd hl | opened p baud rate hd hl => simp [hs] at hl
  | openDone hl | sent hl | sendFailed hl | received xs hl | readFailed hl | parsed hl => simp [hs] at hl
  | finalSent => exact .inl rfl
  | wasReset => exact .inl (by rw [State.resetStep_eq])

/-- Settles O57: FINAL is enabled exactly in ShuttingDown, so by fairness it is taken or ShuttingDown is left before; both
lead to Closed. -/
theorem fairShutdownReachesClosed : Obligations.FairShutdownReachesClosed := by
  intro x n hfair hn
  obtain ⟨m, hm, hon, hend⟩ := hfair.finalTx.enabled_until (n := n) (by simp [Turn.enabled, hn])
  have hstay : ∀ k, n ≤ k → k ≤ m → (x.state k).lstate = .shuttingDown := by simpa [Turn.enabled] using hon
  refine ⟨m + 1, Nat.lt_succ_of_le hm, ?_, fun k hk hkm => hstay k hk (Nat.le_of_lt_succ hkm)⟩
  rcases (x.turnEffect m).lstate_of_shuttingDown (by simpa using hstay m hm le_rfl) with hclosed | ⟨hother, hkept⟩
  · exact hclosed
  · have hoff := hend.resolve_left hother
    simp [Turn.enabled, hkept] at hoff

end Sys2Proof
end
